-- ==== Sys2Proof/Word.lean ====
section
/-!
DEFINITION. The words of the LC-26: what the manual itself treats as bits of a fixed width.
-/

namespace Sys2Proof

/-- One byte of a data field (11.6). -/
abbrev Byte := BitVec 8

/-- The 32-bit number by which a cabinet is identified (Terms, R2). -/
abbrev Tag := BitVec 32

/-- A line clock value: a 32-bit count of milliseconds that wraps (R71). -/
abbrev Clock := BitVec 32

end Sys2Proof
end

