-- ==== Sys2Proof/Syntax.lean ====
section
/-!
DEFINITION. The commands of the LC-26: one constructor of Instr for each row of spec/opcode_table.json, and the types of
their operands. The names are the manual's.
-/

namespace Sys2Proof

/-! ## Indexes and names -/

/-- A station node. The value `i` stands for node `i + 1`, so that the twelve nodes 1 to 12 are all there are (R50). -/
abbrev Node := Fin 12

/-- A recovery vessel, 0 to 3 (R106). -/
abbrev VesselIx := Fin 4

/-- A sensor entry, 0 to 15 (R138). -/
abbrev SensorIx := Fin 16

/-- The accumulation lanes. -/
inductive Lane where
  | a | b | c
  deriving DecidableEq, Repr

/-- The four gates: one in front of each lane, and FEED_GATE in front of the chamber (2.3). -/
inductive Gate where
  | lane (l : Lane)
  | feed
  deriving DecidableEq, Repr

/-- The six filtered discrete inputs (R83). -/
inductive Input where
  | barrier (g : Gate)
  | door
  | estop
  deriving DecidableEq, Repr

/-- The refrigerant class of a cabinet: halocarbon, flammable hydrocarbon, no refrigerant, unknown. -/
inductive Class where
  | h | f | n | u
  deriving DecidableEq, Repr

/-- The blowing-agent class of a cabinet's foam. -/
inductive FoamClass where
  | h | f | u
  deriving DecidableEq, Repr

/-- The class of refrigerant a vessel accepts. -/
inductive Stream where
  | h | f
  deriving DecidableEq, Repr

/-- The kind a station joins with (R50). -/
inductive StationKind where
  | intake | extract
  deriving DecidableEq, Repr

/-- A set of abilities: a subset of {H, F, N, SNIFF} (R50). -/
structure Abilities where
  h     : Bool := false
  f     : Bool := false
  n     : Bool := false
  sniff : Bool := false
  deriving DecidableEq, Repr

/-- The rating of a lane (R30). -/
inductive Rating where
  | closed | h | hf
  deriving DecidableEq, Repr

/-- What a sensor measures (R138). -/
inductive SensorKind where
  | o2 | lel | temp | scale
  deriving DecidableEq, Repr

/-- The chamber phases (R154). -/
inductive Phase where
  | idle | loading | sealing | purging | shredding | paused | condensing | unloading | aborted | safe
  deriving DecidableEq, Repr

/-- The ten chamber outputs (R156). -/
inductive Output where
  | n2Prop | n2Full | vent | circFan | trapCool | shredDrive | doorLock | discharge | drain | beacon
  deriving DecidableEq, Repr

/-- What a pattern gives an output: OFF, ON, or for N2_PROP also PWM (R156). -/
inductive Drive where
  | off | on | pwm
  deriving DecidableEq, Repr

/-! ## Configuration items (12.2) and recipe items (R158) -/

/-- The items of the line table. -/
inductive LineItem where
  | passageTimeout | heartbeatTimeout | filterTime | slotInterval | holdDelay | holdEnd | riseLimit
  | reevacMax | negTolerance | completeMin | overMax | reconcileWindow
  deriving DecidableEq, Repr

/-- The zones whose capacity can be configured (R25). -/
inductive CapZone where
  | intake | lane (l : Lane) | buffer | exit
  deriving DecidableEq, Repr

/-- The items of a vessel (R106). -/
inductive VesselItem where
  | streamClass | capacityG | fillPm | scaleSensor | settleS
  deriving DecidableEq, Repr

/-- The items of a sensor entry (R140). -/
inductive SensorItem where
  | enabled | address | kind | sampleIndex | zero | span | assertLimit | deassertLimit
  deriving DecidableEq, Repr

/-- The writable configuration items. The indexes are as the frame carries them and can lie outside the table. -/
inductive ConfigItem where
  | line (i : LineItem)
  | dwell (c : Stream)
  | oilPm (c : Stream)
  | capacity (z : CapZone)
  | rating (l : Lane)
  | vessel (ix : Nat) (i : VesselItem)
  | sensor (ix : Nat) (i : SensorItem)
  deriving DecidableEq, Repr

/-- The recipe parameters, in the order of R158's table. -/
inductive Param where
  | batchSize | fFoamMax | loadWait | sealTimeout | purgeTarget | purgeMin | purgeMax | o2ShredMax | o2Abort
  | lelResume | lelPause | dutyMin | lelAbort | shredTime | pauseMax | condenseTime | trapMax | condenseSettle
  | unloadTime | pwmPeriod | dutyBase | lelTarget | kp
  deriving DecidableEq, Repr

/-- The five chamber sensors a recipe names (R158). -/
inductive SensorName where
  | o2 | lel1 | lel2 | trap | condensate
  deriving DecidableEq, Repr

/-- The items of a recipe. A pattern entry names its output by a code, which can be unknown. -/
inductive RecipeItem where
  | param (p : Param)
  | sensorName (n : SensorName)
  | pattern (p : Phase) (o : Option Output)
  deriving DecidableEq, Repr

/-- The read-only line-state items (R200, R203). -/
inductive StatusItem where
  | lineState | estopActive | windowExpired | reconcileRemaining
  deriving DecidableEq, Repr

/-- What a Config Write or a Config Read can name. A recipe item carries the copy mark: staged or working. -/
inductive Item where
  | config (i : ConfigItem)
  | recipe (staged : Bool) (i : RecipeItem)
  | status (i : StatusItem)
  deriving DecidableEq, Repr

/-- A value as a Config Write or a Recipe Write carries it: a number, or a code read as the item reads it. `absent` is
"none" for lel2_sensor; `invalid` is a code that names nothing (assumptions 3 and 21). -/
inductive Value where
  | number (v : Int)
  | stream (c : Stream)
  | rating (r : Rating)
  | kind (k : SensorKind)
  | mark (b : Bool)
  | drive (d : Drive)
  | absent
  | invalid
  deriving DecidableEq, Repr

/-! ## Frames -/

/-- The foam weight in kg and the declared charge in grams with its presence mark, as Adopt carries them where its frame
is long enough (R206). -/
structure WeightCharge where
  foamWeight      : Nat
  declaredPresent : Bool
  declared        : Nat
  deriving DecidableEq, Repr

/-- The cabinet's fields of a creating Reclaim, coded as in Enrol (R205). -/
structure CabinetFields where
  classCode : Nat
  foamCode  : Nat
  charge    : WeightCharge
  deriving DecidableEq, Repr

/-- The named operands of a request whose byte layout the manual does not give (assumption 3). Each request reads the
ones its rule names and ignores the others. Codes that 11.6 lists are numbers; a code the manual does not list is the
thing it names, or none for a code that names nothing. -/
structure Fields where
  /-- the tag of the requests that name a record -/
  tag : Tag := 0
  /-- Join: the kind -/
  stationKind : Option StationKind := none
  /-- Join: the lane -/
  lane : Option Lane := none
  /-- Join: the offered abilities -/
  offered : Abilities := {}
  /-- Join: a mark other than H, F, N and SNIFF is set in offered -/
  offeredOther : Bool := false
  /-- Reclaim: the done mark -/
  doneMark : Bool := false
  /-- Reclaim: the cabinet's fields, none when the frame is too short to carry them -/
  cabinet : Option CabinetFields := none
  /-- Class Found, Adopt: the class code (11.6) -/
  classCode : Nat := 0
  /-- Adopt: the foam class code (11.6) -/
  foamCode : Nat := 0
  /-- Adopt: foam weight and declared charge, none when the frame is too short to carry them -/
  charge : Option WeightCharge := none
  /-- Adopt, Zone Read: the zone code (11.6) -/
  zoneCode : Nat := 0
  /-- Adopt: the stage code (11.6) -/
  stageCode : Nat := 0
  /-- Adopt, Zone Read, Station Status, Bar, Unbar: the node number -/
  node : Nat := 0
  /-- Zone Read: the start position -/
  position : Nat := 0
  /-- Vessel Status, Sensor Status, Vessel Online, Vessel Offline, Gate Clear: the index -/
  index : Nat := 0
  /-- Vessel Online: the tare in grams -/
  tare : Nat := 0
  /-- Clear Hold: the reason code (11.6) -/
  reasonCode : Nat := 0
  /-- Override: the dwell in seconds -/
  seconds : Nat := 0
  /-- Pressure: the circuit pressure in pascals -/
  pressure : Nat := 0
  /-- Config Write, Config Read: the item, none when table and item codes name nothing -/
  item : Option Item := none
  /-- Recipe Write: the item, none when the item code names nothing -/
  recipeItem : Option RecipeItem := none
  /-- Config Write, Recipe Write: the value -/
  value : Value := .invalid
  deriving DecidableEq, Repr

/-- A frame on the line bus (R187). -/
structure Frame where
  /-- extended data frame format, as against standard format -/
  extended : Bool := true
  /-- a remote frame -/
  remote : Bool := false
  /-- received with a bus error (R188) -/
  busError : Bool := false
  /-- the 29-bit identifier, laid out as R197 gives -/
  ident : BitVec 29
  /-- the data field, byte 0 first -/
  data : List Byte
  /-- what the data field spells where 11.6 gives no layout -/
  fields : Fields := {}
  deriving DecidableEq, Repr

/-! ## Other operands -/

/-- The first raw level TU reads of each input at power-on (R83): a barrier interrupted, the door closed, the emergency
stop asserted. -/
structure InputLevels where
  barrierA : Bool
  barrierB : Bool
  barrierC : Bool
  barrierFeed : Bool
  doorClosed : Bool
  estopAsserted : Bool
  deriving DecidableEq, Repr

/-- How a transmission ends other than well (R194, R195). -/
inductive TransmitFailure where
  | error
  | lostArbitration
  deriving DecidableEq, Repr

/-- What the addressed device does in one transaction (R143): a step that it does not acknowledge, or the two data bytes
and the check byte. -/
inductive Transaction where
  | nack (step : Fin 3)
  | bytes (high low check : Byte)
  deriving DecidableEq, Repr

/-- Who asks SN for a next sample (R150). -/
inductive Requester where
  | vessel (v : VesselIx)
  | condensate
  deriving DecidableEq, Repr

/-! ## The commands -/

/-- One constructor for each row of spec/opcode_table.json, in the table's order. -/
inductive Instr where
  | powerOn (levels : InputLevels)
  | frameReceived (f : Frame)
  | unknownKind
  | frameTransmitted
  | transmitError (how : TransmitFailure)
  | busOffRecovery
  | join
  | leave
  | pulse
  | enrol
  | look
  | claimNext
  | reclaim
  | classFound
  | inletRequest
  | pressure
  | reEvacuate
  | release
  | configWrite
  | configRead
  | recipeWrite
  | recipeCommit
  | lineStart
  | lineOpen
  | lineResume
  | lineReset
  | adopt
  | recordRead
  | zoneRead
  | stationStatus
  | vesselStatus
  | sensorStatus
  | chamberStatus
  | hold
  | clearHold
  | dispose
  | retire
  | override
  | vesselOnline
  | vesselOffline
  | bar
  | unbar
  | gateClear
  | chamberRestart
  | chamberClear
  | rawInputChange (i : Input) (level : Bool)
  | inputChangeAccepted (i : Input)
  | passage (g : Gate)
  | passageTimeout (g : Gate)
  | heartbeatExpiry (n : Node)
  | dwellExpiry (n : Node)
  | windowOpen (n : Node)
  | windowClose (n : Node)
  | settleExpiry (v : VesselIx)
  | slotStart
  | pollEnd (first retry : Transaction)
  | immediateUnusableAnswer (r : Requester)
  | phaseExpiry
  | pauseExpiry
  | loadExpiry
  | reconcileExpiry
  | pwmPeriodStart
  | transmissionStart
  | activeTimeEnd
  deriving DecidableEq, Repr

end Sys2Proof
end

