-- ==== Sys2Proof/Decode.lean ====
section
/-!
DEFINITION. The commands that words spell by the table's bits. No row of spec/opcode_table.json gives bits: the device is reached by
frames, which are operands of FRAME_RECEIVED, and by events.
-/

namespace Sys2Proof

/-- The command a word spells: none, for every word, since no row of the table gives bits (assumption 26). -/
def decodeTableWord (_nbits _w : Nat) : Option Instr := none

end Sys2Proof
end

