-- ==== Sys2Proof/Config.lean ====
section
/-!
DEFINITION. The fixed sizes of the device, and the output level the manual leaves open. The bytes of open frame layouts, free too,
stand in Machine/State.lean beside the types they are functions of.
-/

namespace Sys2Proof.Config

/-- Entries of the request, transmit and notice queues (R189, R190, R193). -/
def queueDepth : Nat := 16

/-- Records the cabinet table can hold (R1). -/
def tableSlots : Nat := 64

/-- EXTRACT stations that one lane can be served by (R27, R53). -/
def stationsPerLane : Nat := 3

/-- Capacity of the CHAMBER list (R25). -/
def chamberCapacity : Nat := 4

/-- The 9 station positions and 4 chamber places of the capacity sum (R1, R25). -/
def fixedPlaces : Nat := 13

/-- The transmit error count above which LP goes BUS_OFF (R195). -/
def busOffLimit : Nat := 255

/-- The transmit error count added by one transmission error (R195). -/
def errorStep : Nat := 8

/-- The level of the N2_PROP output when the pattern in force gives PWM and the generator is STOPPED, which happens only
after a Line Reset under a recipe whose IDLE pattern gives PWM (R80, R154): the manual gives no level for it. A free
value (assumption 9), drawn afresh by the counter State.freeCount. -/
opaque freeLevel : Nat → Bool

end Sys2Proof.Config
end

