-- ==== Sys2Proof/Machine/State.lean ====
section
/-!
DEFINITION. The state of the LC-26, block by block, and its value after power-on. INVENTORY.md lists each field with its
rule and its reset value.
-/

namespace Sys2Proof.Machine

/-! ## Tables over the lanes and the gates -/

/-- One value for each lane. -/
structure LaneTab (α : Type) where
  a : α
  b : α
  c : α
  deriving DecidableEq, Repr

/-- One value for each gate. -/
structure GateTab (α : Type) where
  lanes : LaneTab α
  feed  : α
  deriving DecidableEq, Repr

/-! ## Names used in the state -/

/-- The line states (R200). -/
inductive LineState where
  | config | reconcile | run | stopped
  deriving DecidableEq, Repr

/-- The bus states of LP (R195). -/
inductive BusState where
  | onBus | busOff
  deriving DecidableEq, Repr

/-- The stages of a record (R4). -/
inductive Stage where
  | new | routed | claimed | waitInlet | evacuating | vacuumHold | done1 | batched | rejected
  deriving DecidableEq, Repr

/-- The verdicts (R7). -/
inductive Verdict where
  | none | complete | short | over | undeclared | unmeasured | empty
  deriving DecidableEq, Repr

/-- The hold reasons, in reason code order (R8). -/
inductive HoldReason where
  | jam | stationLost | classConflict | leak | scaleFault | overYield | chamberAbort | manual
  deriving DecidableEq, Repr

/-- Where a record stands: a zone, with the node for STATION (R5). -/
inductive Place where
  | intake
  | lane (l : Lane)
  | station (n : Node)
  | buffer
  | chamber
  | exit
  deriving DecidableEq, Repr

/-- The states of a gate (R32). -/
inductive GateState where
  | idle | released | blocked
  deriving DecidableEq, Repr

/-- The states of a station entry (R51). -/
inductive StationState where
  | absent | joined | lost | barred
  deriving DecidableEq, Repr

/-- The states of a progress entry (R88). -/
inductive ProgressState where
  | none | dwell | holdWait | holdOpen | holdStopped | passWait | acceptWait
  deriving DecidableEq, Repr

/-- The states of a vessel (R107). -/
inductive VesselState where
  | offline | idle | baseline | filling | settling | final | full | fault
  deriving DecidableEq, Repr

/-- Why a vessel entered FAULT (R106). -/
inductive FaultCause where
  | baselineUnusable | finalUnusable
  deriving DecidableEq, Repr

/-- The states of a sensor entry (R138). -/
inductive SensorState where
  | init | normal | high | fault
  deriving DecidableEq, Repr

/-- The steps inside CONDENSING (R168). -/
inductive CondenseStep where
  | none | cooling | settle | weigh
  deriving DecidableEq, Repr

/-- The condensate baseline of a batch (R154, R169). -/
inductive Baseline where
  | none
  | pending
  | present (gross : Int)
  | failed
  deriving DecidableEq, Repr

/-- Why the chamber changed its phase: the causes of R155's table. -/
inductive PhaseCause where
  | lineRun | adopted | batchFull | loadWait | skipRule | doorClosed | sealTimeout | purgeDone | doorOpened | purgeMax
  | lelAbort | o2Abort | lelPause | o2High | gasFault | shredTime | resume | pauseMax | foamBooked | unloadTime
  | chamberRestart | chamberClear | emergencyStop | lineResume
  deriving DecidableEq, Repr

/-- The states of a capture slot (R85). -/
inductive SlotState where
  | clear | broken | standing
  deriving DecidableEq, Repr

/-- The status of an answer (R192). -/
inductive Status where
  | done | queued | refused
  deriving DecidableEq, Repr

/-- The refusal reasons, in code order (11.6). -/
inductive Reason where
  | notJoined | notPermitted | unknownTag | duplicateTag | zoneFull | notEligible | badStage | busy | badValue
  | lineState | queueFull | noneAvailable | unknownKind
  deriving DecidableEq, Repr

/-- The conditions of the commit check, in R159's order. -/
inductive CommitCondition where
  | lelOrder | o2Order | shredDriveOff | doorLockOn
  deriving DecidableEq, Repr

/-! ## Cabinet table (CT) and hold sets (HU) -/

/-- One entry of a hold set (R8, R177). -/
structure HoldEntry where
  reason   : HoldReason
  raisedBy : Nat
  raisedAt : Clock
  deriving DecidableEq, Repr

/-- The record of one cabinet (1.2). Its zone is not a field: it is the list that holds the record (R5). -/
structure Record where
  tag            : Tag
  enrolledClass  : Class
  cls            : Class
  foamClass      : FoamClass
  foamWeight     : Nat
  declaredCharge : Option Nat
  stage          : Stage
  station        : Option Node
  vessel         : Option VesselIx
  transfers      : Nat
  recovered      : Nat
  verdict        : Verdict
  dwellOverride  : Option Nat
  holds          : List HoldEntry
  reevacUsed     : Nat
  skipCount      : Nat
  enrolStamp     : Clock
  routeStamp     : Option Clock
  done1Stamp     : Option Clock
  batch          : Option Nat
  foamShare      : Option Nat
  deriving DecidableEq, Repr

/-! ## Zone unit (ZU) -/

/-- One gate (R32). `passing` is the record in passage, for which one place is reserved in the zone behind the
gate (assumption 14). -/
structure GateEntry where
  state   : GateState
  release : Bool
  passing : Option Tag
  deriving DecidableEq, Repr

/-- The zone lists, head first (R24), and the gates. The station positions are the claims of SR's entries (R27). -/
structure ZoneUnit where
  intake  : List Tag
  lanes   : LaneTab (List Tag)
  buffer  : List Tag
  chamber : List Tag
  exit    : List Tag
  gates   : GateTab GateEntry
  deriving DecidableEq, Repr

/-! ## Station registry (SR) -/

/-- One station entry (R50). -/
structure StationEntry where
  state          : StationState
  kind           : Option StationKind
  lane           : Option Lane
  offered        : Abilities
  granted        : Abilities
  claim          : Option Tag
  lostLatch      : Bool
  latestPressure : Option (Nat × Clock)
  deriving DecidableEq, Repr

/-! ## Evacuation control (EC) -/

/-- The test in force: hold_delay and hold_end in seconds and rise_limit in pascals, as read at the window's start (R88). -/
structure HoldWindow where
  delay     : Nat
  stop      : Nat
  riseLimit : Nat
  deriving DecidableEq, Repr

/-- One progress entry (R88). -/
structure Progress where
  state    : ProgressState
  tag      : Option Tag
  dwellEnd : Option Clock
  window   : Option HoldWindow
  baseline : Option (Nat × Clock)
  last     : Option (Nat × Clock)
  reports  : Nat
  deriving DecidableEq, Repr

/-! ## Vessel unit (VU) -/

/-- One vessel entry (R106) with its inlet valve output (R107). -/
structure Vessel where
  streamClass   : Stream
  capacityG     : Nat
  fillPm        : Nat
  scaleSensor   : SensorIx
  settleS       : Nat
  state         : VesselState
  tareG         : Nat
  netG          : Option Int
  bookedTotalG  : Int
  bound         : Option (Tag × Node)
  baselineGross : Option Int
  faultCause    : Option FaultCause
  valve         : Bool
  deriving DecidableEq, Repr

/-- One entry of an inlet queue (R110). -/
structure InletEntry where
  node : Node
  tag  : Tag
  deriving DecidableEq, Repr

/-- The vessels and the inlet queues INQ_H and INQ_F. -/
structure VesselUnit where
  vessels : Vector Vessel 4
  inqH    : List InletEntry
  inqF    : List InletEntry
  deriving DecidableEq, Repr

/-! ## Timer unit (TU) -/

/-- What a deadline or phase-time channel does (R73, R77). -/
inductive ChannelRun where
  | idle
  | running (deadline : Clock)
  | frozen (remaining : Nat)
  deriving DecidableEq, Repr

/-- A deadline channel, a phase-time channel or a heartbeat counter, with the expiry that is pending at its owner and the
deadline that expiry carries (R73). -/
structure Channel where
  run    : ChannelRun
  expiry : Option Clock
  deriving DecidableEq, Repr

/-- What a station channel does: a deadline, or a two-point window that is WAITING or OPEN (R76). -/
inductive StationRun where
  | idle
  | deadline (d : Clock)
  | waiting (openPoint closePoint : Clock)
  | opened (closePoint : Clock)
  deriving DecidableEq, Repr

/-- A station channel with what is pending of it at EC: a dwell expiry, a window open, a window close (R73, R76). -/
structure StationChannel where
  run     : StationRun
  expiry  : Option Clock
  openEv  : Option Clock
  closeEv : Option Clock
  deriving DecidableEq, Repr

/-- The current period of a RUNNING PWM generator (R80, R81). -/
structure PwmPeriod where
  start      : Clock
  period     : Nat
  activeTime : Nat
  deriving DecidableEq, Repr

/-- The PWM generator: STOPPED when `current` is absent (R80). -/
structure Pwm where
  current : Option PwmPeriod
  staged  : Nat
  applied : Nat
  deriving DecidableEq, Repr

/-- A candidate change: the clock at which the raw level took the candidate value, and the filter_time read when the
candidate was formed (R83). -/
structure Candidate where
  stamp      : Clock
  filterTime : Nat
  deriving DecidableEq, Repr

/-- One filtered input (R83). A level is true for a barrier that is interrupted, a door that is closed, an emergency
stop that is asserted. A candidate is always for the level opposite to `filtered`. -/
structure InputFilter where
  raw       : Bool
  rawStamp  : Clock
  filtered  : Bool
  candidate : Option Candidate
  deriving DecidableEq, Repr

/-- A passage event that ZU has not taken yet, with its captured stamp (R85) and the line clock at which it was delivered, by
which ZU takes an expiry delivered earlier first (R87). It is overdue when it waited while ZU took the expiry of FEED_GATE's
passage channel: it then has to find that gate IDLE (R47, assumption 37). -/
structure PassageEvent where
  gate      : Gate
  stamp     : Clock
  delivered : Clock
  overdue   : Bool
  deriving DecidableEq, Repr

/-- The channels (4.2), the PWM generator (4.3), the input filters and the capture slots (4.4). -/
structure TimerUnit where
  station   : Vector StationChannel 12
  settle    : Vector Channel 4
  passage   : GateTab Channel
  phase     : Channel
  pause     : Channel
  load      : Channel
  reconcile : Channel
  heartbeat : Vector Channel 12
  pwm       : Pwm
  barriers  : GateTab InputFilter
  door      : InputFilter
  estop     : InputFilter
  slots     : GateTab SlotState
  passages  : List PassageEvent
  deriving DecidableEq, Repr

/-! ## Sensor poller (SN) -/

/-- One sensor entry (R138). `thresholds` is (assert, deassert); a SCALE entry holds a pair that it does not use
(assumption 20). -/
structure Sensor where
  enabled     : Bool
  address     : Nat
  kind        : SensorKind
  sampleIndex : Nat
  thresholds  : Int × Int
  zero        : Nat
  span        : Nat
  state       : SensorState
  latest      : Option (Int × Clock)
  stale       : Bool
  saturated   : Bool
  failCount   : Nat
  goodCount   : Nat
  faultLatch  : Bool
  deriving DecidableEq, Repr

/-- The poll in flight: its entry, the address and sample_index held at its beginning (R143), and whether the entry was
disabled meanwhile so that the poll is discarded (R141). -/
structure Poll where
  index       : SensorIx
  address     : Nat
  sampleIndex : Nat
  discarded   : Bool
  deriving DecidableEq, Repr

/-- What SN sends on the sensor line (R143): a start, a repeated start, the 7-bit address with write or read direction, a
byte, its acknowledgement of a byte it has read or its withholding of one, a stop. -/
inductive LineSignal where
  | start
  | repeatedStart
  | addressWrite (address : Nat)
  | addressRead (address : Nat)
  | byte (value : Nat)
  | acknowledge
  | noAcknowledge
  | stop
  deriving DecidableEq, Repr

/-- A pending request for the next sample of an entry (R150). -/
structure SampleRequest where
  requester : Requester
  index     : SensorIx
  deriving DecidableEq, Repr

/-- The sensor poller (R138, R142, R150). `immediate` are the requests answered unusable at once after the event that
made them; `sent` is what SN sent on the sensor line in the poll that ended last (R143, assumption 35). -/
structure SensorPoller where
  sensors    : Vector Sensor 16
  lastPolled : SensorIx
  slotDue    : Clock
  inFlight   : Option Poll
  requests   : List SampleRequest
  immediate  : List Requester
  sent       : List LineSignal
  deriving DecidableEq, Repr

/-! ## Chamber sequencer (CS) -/

/-- The values of one phase's pattern (R156). Only N2_PROP can be PWM. -/
structure PatternRow where
  n2Prop     : Drive
  n2Full     : Bool
  vent       : Bool
  circFan    : Bool
  trapCool   : Bool
  shredDrive : Bool
  doorLock   : Bool
  discharge  : Bool
  drain      : Bool
  beacon     : Bool
  deriving DecidableEq, Repr

/-- The pattern table: the nine phases other than SAFE (R156). -/
structure Patterns where
  idle       : PatternRow
  loading    : PatternRow
  sealing    : PatternRow
  purging    : PatternRow
  shredding  : PatternRow
  paused     : PatternRow
  condensing : PatternRow
  unloading  : PatternRow
  aborted    : PatternRow
  deriving DecidableEq, Repr

/-- A recipe: the parameters of R158's table, the sensor names and the pattern table. Times in seconds but pwmPeriod in
milliseconds. -/
structure Recipe where
  batchSize      : Nat
  fFoamMax       : Nat
  loadWait       : Nat
  sealTimeout    : Nat
  purgeTarget    : Nat
  purgeMin       : Nat
  purgeMax       : Nat
  o2ShredMax     : Nat
  o2Abort        : Nat
  lelResume      : Nat
  lelPause       : Nat
  dutyMin        : Nat
  lelAbort       : Nat
  shredTime      : Nat
  pauseMax       : Nat
  condenseTime   : Nat
  trapMax        : Int
  condenseSettle : Nat
  unloadTime     : Nat
  pwmPeriod      : Nat
  dutyBase       : Nat
  lelTarget      : Nat
  kp             : Nat
  o2Sensor       : SensorIx
  lel1Sensor     : SensorIx
  lel2Sensor     : Option SensorIx
  trapSensor     : SensorIx
  condensateSensor : SensorIx
  patterns       : Patterns
  deriving DecidableEq, Repr

/-- The levels of the ten chamber outputs. -/
structure Outputs where
  n2Prop     : Bool
  n2Full     : Bool
  vent       : Bool
  circFan    : Bool
  trapCool   : Bool
  shredDrive : Bool
  doorLock   : Bool
  discharge  : Bool
  drain      : Bool
  beacon     : Bool
  deriving DecidableEq, Repr

/-- The state of R154. -/
structure Chamber where
  phase        : Phase
  batchList    : List Tag
  batchCounter : Nat
  ffCount      : Nat
  loadExpired  : Bool
  purgeMinDone : Bool
  shredDone    : Bool
  step         : CondenseStep
  baseline     : Baseline
  total        : Option Nat
  working      : Recipe
  staged       : Recipe
  commitMark   : Bool
  outputs      : Outputs
  deriving DecidableEq, Repr

/-! ## Configuration tables (12.2) -/

/-- The line, class and zone tables. The vessel and sensor tables are fields of their entries. -/
structure ConfigTables where
  passageTimeout   : Nat
  heartbeatTimeout : Nat
  filterTime       : Nat
  slotInterval     : Nat
  holdDelay        : Nat
  holdEnd          : Nat
  riseLimit        : Nat
  reevacMax        : Nat
  negTolerance     : Nat
  completeMin      : Nat
  overMax          : Nat
  reconcileWindow  : Nat
  dwellH           : Nat
  dwellF           : Nat
  oilPmH           : Nat
  oilPmF           : Nat
  capIntake        : Nat
  capLanes         : LaneTab Nat
  capBuffer        : Nat
  capExit          : Nat
  ratings          : LaneTab Rating
  deriving DecidableEq, Repr

/-! ## Line port (LP): answers and notices by their named fields -/

/-- The set of hold reasons held, one mark each (11.6). -/
abbrev HoldMarks := BitVec 8

/-- One record as Zone Read gives it (R49). -/
structure ZoneSlot where
  tag   : Tag
  stage : Stage
  held  : Bool
  deriving DecidableEq, Repr

/-- A state of a channel as it is reported (R73). -/
inductive ReportedRun where
  | idle | running | frozen
  deriving DecidableEq, Repr

/-- The result that one answer frame carries, by the named fields of the rule that gives it. -/
inductive Result where
  /-- nothing -/
  | empty
  /-- Join (R54): granted set and claim tag, 0 when there is none -/
  | joined (granted : Abilities) (claim : Tag)
  /-- Pulse (R57) -/
  | alive (line : LineState) (claim : Tag)
  /-- Enrol (R16): records in INTAKE and in the table -/
  | enrolled (inIntake inTable : Nat)
  /-- Look, part 0 (R18) -/
  | lookPlace (tag : Tag) (stage : Stage) (place : Option Place)
  /-- Look, part 1 (R18): the station field is 0 when absent -/
  | lookDetail (station : Nat) (cls : Class) (verdict : Verdict) (marks : HoldMarks) (dwell : Nat)
  /-- Claim Next (R65) -/
  | claimed (tag : Tag) (cls : Class)
  /-- Reclaim (R66) -/
  | reclaimed (stage : Stage) (conflict : Bool)
  /-- Class Found (R68) -/
  | classFound (cls : Class) (stage : Stage) (conflict : Bool)
  /-- Inlet Request and Re-evacuate (R89, R99) -/
  | inlet (stream : Stream) (position : Nat)
  /-- Pressure (R94) -/
  | pressure (pa : Nat) (state : ProgressState)
  /-- Release, Retire, Dispose, Adopt: the occupancy of the zone (R42, R21, R185, R206) -/
  | occupancy (records : Nat)
  /-- Config Write and Config Read: the item as stored (R202, R203) -/
  | stored (value : Value)
  /-- Config Read of a line-state item (R203) -/
  | lineState (line : LineState)
  /-- Config Read of a recipe item, with the commit mark (R203) -/
  | recipe (value : Value) (commitMark : Bool)
  /-- a refused Recipe Commit: the first failing condition (R159) -/
  | commitFailed (c : CommitCondition)
  /-- Line Start: the window in seconds (R204) -/
  | reconcileWindow (seconds : Nat)
  /-- bytes laid out by 11.6 (Record Read, R199) -/
  | bytes (b : List Byte)
  /-- Zone Read, part 0 (R49): the gate is none for a zone with no gate in front of it -/
  | zone (place : Place) (occupancy capacity : Nat) (reserved : Bool) (gate : Option GateState)
  /-- Zone Read, parts 1 and 2: none stands for tag 0 -/
  | zoneSlot (record : Option ZoneSlot)
  /-- Station Status, part 0 (R69) -/
  | stationEntry (state : StationState) (kind : Option StationKind) (lane : Option Lane) (offered granted : Abilities)
      (lostLatch : Bool)
  /-- Station Status, part 1 -/
  | stationClaim (claim : Tag) (record : Option (Stage × Bool))
  /-- Station Status, part 2 -/
  | stationPressure (pa : Nat) (age : Nat)
  /-- Vessel Status, part 0 (R123) -/
  | vesselEntry (state : VesselState) (stream : Stream) (cause : Option FaultCause) (tag : Tag) (node : Nat)
      (settleRemaining : Nat)
  /-- Vessel Status, part 1 -/
  | vesselFill (capacity fillLimit tare : Nat) (net : Option Int) (fillPm : Nat)
  /-- Vessel Status, part 2 -/
  | vesselQueue (bookedTotal : Int) (baselineGross : Option Int) (length : Nat) (node : Nat) (tag : Tag)
  /-- Sensor Status, part 0 (R153) -/
  | sensorEntry (index : SensorIx) (enabled : Bool) (kind : SensorKind) (address sampleIndex : Nat) (state : SensorState)
      (faultLatch : Bool) (failCount goodCount : Nat)
  /-- Sensor Status, part 1 -/
  | sensorLatest (latest : Option Int) (stale saturated : Bool) (age : Nat)
  /-- Sensor Status, part 2 for O2, LEL and TEMP -/
  | sensorLimits (assertLimit deassertLimit : Int)
  /-- Sensor Status, part 2 for SCALE -/
  | sensorScale (zeroCount span : Nat)
  /-- Chamber Status, part 0 (R176) -/
  | chamberPhase (phase : Phase) (step : CondenseStep) (run : ReportedRun) (phaseRemaining pauseRemaining : Nat)
      (shredDone loadExpired : Bool)
  /-- Chamber Status, part 1 -/
  | chamberBatch (batch records ffCount : Nat) (commitMark doorClosed : Bool)
  /-- Chamber Status, part 2: each latest value with its mark "cannot be used" -/
  | chamberGas (lel : Option Int) (o2 : Option Int) (o2Unusable : Bool) (trap : Option Int) (trapUnusable : Bool)
      (gasFailed shredDrive : Bool)
  /-- Chamber Status, part 3 -/
  | chamberNitrogen (staged applied : Nat) (baseline : Baseline) (total : Option Nat)
  /-- Hold (R179) -/
  | held (stage : Stage) (already : Bool)
  /-- Clear Hold (R180) -/
  | cleared (wasHeld : Bool) (stage : Stage) (marks : HoldMarks) (raisedBy : Nat) (age : Nat)
  /-- Override (R20): the resulting effective dwell in seconds -/
  | dwell (seconds : Nat)
  /-- Vessel Online (R108) -/
  | vesselOnline (v : VesselIx) (stream : Stream) (fillLimit : Nat)
  deriving DecidableEq, Repr

/-- What an answer frame holds: the head with status, reason (0 unless REFUSED), the kind code answered and a result in
part 0; a result alone in a later part (R192, R197). -/
inductive AnswerBody where
  | head (status : Status) (reason : Option Reason) (kind : Nat) (result : Result)
  | more (result : Result)
  deriving DecidableEq, Repr

/-- One frame of the transmit queue. -/
structure AnswerFrame where
  dest : Nat
  part : Nat
  body : AnswerBody
  deriving DecidableEq, Repr

/-- How a retired record left (R23). -/
inductive Route where
  | chamber | exit
  deriving DecidableEq, Repr

/-- The cause a VESSEL notice carries (R119). -/
inductive VesselCause where
  | full | baselineUnusable | finalUnusable
  deriving DecidableEq, Repr

/-- The notices by their named fields (R193 and the rules that send them). -/
inductive NoticeBody where
  /-- GRANT (R105) -/
  | grant (tag : Tag) (v : VesselIx) (stream : Stream) (dwell : Nat)
  /-- EVAC END (R105) -/
  | evacEnd (tag : Tag) (v : Option VesselIx) (holdDelay holdEnd : Nat)
  /-- HOLD RESULT (R105) -/
  | holdResult (tag : Tag) (pass : Bool) (baseline last : Nat) (rise : Int) (reports : Nat)
  /-- STAGE DONE (R105) -/
  | stageDone (tag : Tag) (verdict : Verdict) (recovered : Nat)
  /-- HOLD RAISED (R178) -/
  | holdRaised (tag : Tag) (reason : HoldReason) (raisedBy : Nat) (stage : Stage) (place : Option Place)
      (marks : HoldMarks)
  /-- STATION LOST (R59): claim 0 and no stage when there is no claim -/
  | stationLost (n : Node) (kind : Option StationKind) (lane : Option Lane) (claim : Tag) (stage : Option Stage)
  /-- LIMIT (R152) -/
  | limit (index : SensorIx) (kind : SensorKind) (before after : SensorState) (value : Int) (stale saturated : Bool)
      (age : Nat)
  /-- PHASE (R155) -/
  | phase (before after : Phase) (cause : PhaseCause) (batch records : Nat)
  /-- VESSEL (R119) -/
  | vessel (v : VesselIx) (stream : Stream) (state : VesselState) (cause : VesselCause) (tag : Tag) (net : Option Int)
      (fillLimit : Nat) (bookedTotal : Int)
  /-- DISCHARGE REPORT (R23) -/
  | discharge (tag : Tag) (route : Route) (enrolledClass cls : Class) (foamClass : FoamClass) (declared transfers : Nat)
      (recovered : Nat) (verdict : Verdict) (batch : Nat) (foamShare : Option Nat) (marks : HoldMarks) (seconds : Nat)
  deriving DecidableEq, Repr

/-- One entry of the notice queue: the node it goes to and its content (R193). -/
structure Notice where
  dest : Nat
  body : NoticeBody
  deriving DecidableEq, Repr

end Sys2Proof.Machine

/-- The result bytes that spell the named items of an answer, where the manual gives the items and no layout. A free value
(assumption 4). -/
opaque Sys2Proof.Config.resultBytes : Sys2Proof.Machine.Result → List Sys2Proof.Byte

/-- The data bytes of one frame of a notice, by its part index: the manual gives the items of a notice and no layout. A free
value (assumptions 4 and 40). -/
opaque Sys2Proof.Config.noticeBytes : Sys2Proof.Machine.NoticeBody → Nat → List Sys2Proof.Byte

namespace Sys2Proof.Machine

/-- The named items that a sent frame carries: a result of an answer, or a notice. -/
inductive FrameItems where
  | result (r : Result)
  | notice (body : NoticeBody)
  deriving DecidableEq, Repr

/-- A frame as LP sends it: the 29-bit identifier, the data field, and the named items it spells (R187, R192, R193, R197,
assumption 4). -/
structure OutFrame where
  ident : BitVec 29
  data  : List Byte
  items : FrameItems
  deriving DecidableEq, Repr

/-- Where the frame that the one transmitter is sending stands: at the head of the transmit queue, at the head of the notice
queue, or nowhere, since Line Reset has emptied its queue meanwhile (R194, R196). -/
inductive Sending where
  | answer | notice | orphan
  deriving DecidableEq, Repr

/-- A frame in transmission. -/
structure Transmission where
  side  : Sending
  frame : OutFrame
  deriving DecidableEq, Repr

/-- One of the two queues that feed the transmitter (R194). -/
inductive Side where
  | transmit | notice
  deriving DecidableEq, Repr

/-- The line port. `noticeParts` counts the frames of the head notice that have been sent. -/
structure LinePort where
  requests    : List Frame
  answers     : List AnswerFrame
  notices     : List Notice
  noticeParts : Nat
  sending     : Option Transmission
  prefer      : Side
  errorCount  : Nat
  bus         : BusState
  deriving DecidableEq, Repr

/-- LP's line-state element (R200). -/
structure LineElement where
  state         : LineState
  estopActive   : Bool
  windowExpired : Bool
  deriving DecidableEq, Repr

/-! ## The machine -/

/-- The whole machine. `pending` are the commands that wait, first in, first out; `freeCount` counts the free values drawn
(both are the model's own, assumptions 1 and 10). -/
structure State where
  clock     : Clock
  line      : LineElement
  lp        : LinePort
  cfg       : ConfigTables
  records   : List Record
  zu        : ZoneUnit
  stations  : Vector StationEntry 12
  progress  : Vector Progress 12
  vu        : VesselUnit
  tu        : TimerUnit
  sn        : SensorPoller
  cs        : Chamber
  freeCount : Nat
  pending   : List Instr
  deriving DecidableEq, Repr

/-- The manual gives the device no stop that a command could end in, so no meaning raises a fault (assumption 25). -/
inductive Fault where
  deriving DecidableEq, Repr

/-- The reasons for which a command has no meaning. -/
inductive Refusal where
  /-- raised by exec's arm of a command that has no meaning in this model; safe: the run stops where the device goes on -/
  | notModelled (mnemonic : String)
  deriving DecidableEq, Repr

/-- What a meaning answers. -/
abbrev Answer := Host.Outcome State Fault Refusal

/-! ## Power-on values -/

/-- The same value for every lane. -/
def LaneTab.all {α : Type} (x : α) : LaneTab α := ⟨x, x, x⟩

/-- The same value for every gate. -/
def GateTab.all {α : Type} (x : α) : GateTab α := ⟨.all x, x⟩

/-- Every configuration item at its default (R202, R25). -/
def ConfigTables.initial : ConfigTables where
  passageTimeout := 8
  heartbeatTimeout := 3000
  filterTime := 20
  slotInterval := 50
  holdDelay := 5
  holdEnd := 30
  riseLimit := 500
  reevacMax := 2
  negTolerance := 20
  completeMin := 850
  overMax := 1150
  reconcileWindow := 120
  dwellH := 90
  dwellF := 120
  oilPmH := 30
  oilPmF := 20
  capIntake := 8
  capLanes := .all 6
  capBuffer := 12
  capExit := 8
  ratings := .all .closed

/-- The default pattern table (R156). -/
def Patterns.initial : Patterns where
  --              N2_PROP N2_FULL VENT   FAN    TRAP   SHRED  LOCK   DISCH  DRAIN  BEACON
  idle       := ⟨.off, false, false, false, false, false, false, false, false, false⟩
  loading    := ⟨.off, false, true, false, false, false, false, false, false, false⟩
  sealing    := ⟨.off, false, false, false, false, false, true, false, false, false⟩
  purging    := ⟨.off, true, true, true, true, false, true, false, false, false⟩
  shredding  := ⟨.pwm, false, false, true, true, true, true, false, false, true⟩
  paused     := ⟨.pwm, true, false, true, true, false, true, false, false, true⟩
  condensing := ⟨.off, false, false, true, true, false, true, false, false, false⟩
  unloading  := ⟨.off, false, true, true, false, false, false, true, true, false⟩
  aborted    := ⟨.off, true, false, true, false, false, true, false, false, true⟩

/-- The default recipe (R158). -/
def Recipe.initial : Recipe where
  batchSize := 4
  fFoamMax := 2
  loadWait := 60
  sealTimeout := 20
  purgeTarget := 30
  purgeMin := 30
  purgeMax := 180
  o2ShredMax := 40
  o2Abort := 60
  lelResume := 150
  lelPause := 250
  dutyMin := 16
  lelAbort := 400
  shredTime := 240
  pauseMax := 120
  condenseTime := 300
  trapMax := -350
  condenseSettle := 3
  unloadTime := 90
  pwmPeriod := 100
  dutyBase := 64
  lelTarget := 100
  kp := 8
  o2Sensor := 0
  lel1Sensor := 1
  lel2Sensor := none
  trapSensor := 2
  condensateSensor := 3
  patterns := .initial

/-- Every chamber output off: the IDLE pattern of the default recipe (R154, R156). -/
def Outputs.off : Outputs := ⟨false, false, false, false, false, false, false, false, false, false⟩

/-- CS after power-on (R154). -/
def Chamber.initial : Chamber where
  phase := .idle
  batchList := []
  batchCounter := 0
  ffCount := 0
  loadExpired := false
  purgeMinDone := false
  shredDone := false
  step := .none
  baseline := .none
  total := none
  working := .initial
  staged := .initial
  commitMark := false
  outputs := .off

/-- A station entry after power-on and after Line Reset (R50). -/
def StationEntry.initial : StationEntry where
  state := .absent
  kind := none
  lane := none
  offered := {}
  granted := {}
  claim := none
  lostLatch := false
  latestPressure := none

/-- A progress entry that is NONE (R88). -/
def Progress.initial : Progress where
  state := .none
  tag := none
  dwellEnd := none
  window := none
  baseline := none
  last := none
  reports := 0

/-- A vessel after power-on, with the defaults that differ between the four (R106). -/
def Vessel.initial (stream : Stream) (scale : SensorIx) : Vessel where
  streamClass := stream
  capacityG := 30000
  fillPm := 800
  scaleSensor := scale
  settleS := 3
  state := .offline
  tareG := 0
  netG := none
  bookedTotalG := 0
  bound := none
  baselineGross := none
  faultCause := none
  valve := false

/-- The threshold pair that a SCALE entry holds and does not use: the manual names no value for it (R140, assumption 20). -/
def unusedThresholds : Int × Int := (1, 0)

/-- A sensor entry after power-on (R139). -/
def Sensor.initial : Sensor where
  enabled := false
  address := 8
  kind := .scale
  sampleIndex := 0
  thresholds := unusedThresholds
  zero := 0
  span := 1024
  state := .init
  latest := none
  stale := false
  saturated := false
  failCount := 0
  goodCount := 0
  faultLatch := false

/-- A channel that is IDLE with nothing pending (R78). -/
def Channel.initial : Channel := ⟨.idle, none⟩

/-- A station channel that is IDLE with nothing pending (R78). -/
def StationChannel.initial : StationChannel := ⟨.idle, none, none, none⟩

/-- A gate that is IDLE, its release off, with no record in passage (R32). -/
def GateEntry.initial : GateEntry := ⟨.idle, false, none⟩

/-- An input filter at power-on: the first raw level read is the filtered level, with no candidate (R83). -/
def InputFilter.initial (level : Bool) : InputFilter := ⟨level, 0, level, none⟩

/-- A capture slot at power-on (R85). -/
def SlotState.initial (interrupted : Bool) : SlotState := if interrupted then .standing else .clear

/-- TU after power-on (R78, R80, R83, R85). -/
def TimerUnit.initial (lv : InputLevels) : TimerUnit where
  station := Vector.replicate 12 .initial
  settle := Vector.replicate 4 .initial
  passage := .all .initial
  phase := .initial
  pause := .initial
  load := .initial
  reconcile := .initial
  heartbeat := Vector.replicate 12 .initial
  pwm := ⟨none, 0, 0⟩
  barriers := ⟨⟨.initial lv.barrierA, .initial lv.barrierB, .initial lv.barrierC⟩, .initial lv.barrierFeed⟩
  door := .initial lv.doorClosed
  estop := .initial lv.estopAsserted
  slots := ⟨⟨.initial lv.barrierA, .initial lv.barrierB, .initial lv.barrierC⟩, .initial lv.barrierFeed⟩
  passages := []

/-- The machine right after power-on (R200 and the rules of each block), with the first raw levels of the inputs. The first
slot of SN begins in this event and passes without a poll, since no entry is enabled (R142): the next may begin at 50. -/
def State.powerOn (lv : InputLevels) : State where
  clock := 0
  line := ⟨.config, lv.estopAsserted, false⟩
  lp := ⟨[], [], [], 0, none, .transmit, 0, .onBus⟩
  cfg := .initial
  records := []
  zu := ⟨[], .all [], [], [], [], .all .initial⟩
  stations := Vector.replicate 12 .initial
  progress := Vector.replicate 12 .initial
  vu := ⟨#v[.initial .h 12, .initial .h 13, .initial .f 14, .initial .f 15], [], []⟩
  tu := .initial lv
  sn := ⟨Vector.replicate 16 .initial, 15, 50, none, [], [], []⟩
  cs := .initial
  freeCount := 0
  pending := []

/-- The levels of the inputs in State.reset: no barrier interrupted, the door open, no emergency stop (assumption 5). -/
def quietLevels : InputLevels := ⟨false, false, false, false, false, false⟩

/-- The machine right after reset: power-on with quiet inputs, no command waiting. -/
def State.reset : State := .powerOn quietLevels

end Sys2Proof.Machine
end

