-- ==== Sys2Proof/Machine/Operands.lean ====
section
/-!
DEFINITION. How the operands of a command are read: the frame identifier (R197), the message-set table (11.2, 11.3), the
data field of Enrol (R198), the codes of 11.6, and the checks and clamps of a new cabinet's values (R14).
-/

namespace Sys2Proof.Machine

/-! ## Tables over lanes and gates -/

/-- The value of a lane. -/
def LaneTab.get {α : Type} (t : LaneTab α) : Lane → α
  | .a => t.a
  | .b => t.b
  | .c => t.c

/-- The table with another value for one lane. -/
def LaneTab.set {α : Type} (t : LaneTab α) (l : Lane) (x : α) : LaneTab α :=
  match l with
  | .a => { t with a := x }
  | .b => { t with b := x }
  | .c => { t with c := x }

/-- The table with a function applied to every value. -/
def LaneTab.map {α β : Type} (f : α → β) (t : LaneTab α) : LaneTab β := ⟨f t.a, f t.b, f t.c⟩

/-- The value of a gate. -/
def GateTab.get {α : Type} (t : GateTab α) : Gate → α
  | .lane l => t.lanes.get l
  | .feed => t.feed

/-- The table with another value for one gate. -/
def GateTab.set {α : Type} (t : GateTab α) (g : Gate) (x : α) : GateTab α :=
  match g with
  | .lane l => { t with lanes := t.lanes.set l x }
  | .feed => { t with feed := x }

/-- The table with a function applied to every value. -/
def GateTab.map {α β : Type} (f : α → β) (t : GateTab α) : GateTab β := ⟨t.lanes.map f, f t.feed⟩

/-- The lanes in the order in which ties are broken (R30). -/
def allLanes : List Lane := [.a, .b, .c]

/-- The gates in the order of Gate Clear's index (R36). -/
def allGates : List Gate := [.lane .a, .lane .b, .lane .c, .feed]

/-- The vessels in index order. -/
def allVessels : List VesselIx := [0, 1, 2, 3]

/-- The nodes in node order. -/
def allNodes : List Node := [0, 1, 2, 3, 4, 5, 6, 7, 8, 9, 10, 11]

/-- The sensor indexes in order. -/
def allSensors : List SensorIx := [0, 1, 2, 3, 4, 5, 6, 7, 8, 9, 10, 11, 12, 13, 14, 15]

/-! ## Numbers -/

/-- A value outside its range is replaced by the nearer end of the range (Conventions, "Clamped"). -/
def clampInt (lo hi v : Int) : Int := if v < lo then lo else if hi < v then hi else v

/-- Clamping into a range of non-negative numbers. -/
def clampNat (lo hi : Nat) (v : Int) : Nat := (clampInt lo hi v).toNat

/-- A duration in milliseconds as a line clock difference (R72). -/
def msec (n : Nat) : Clock := BitVec.ofNat 32 n

/-- A duration in seconds as a line clock difference (R72). -/
def sec (n : Nat) : Clock := msec (n * 1000)

/-- The number of a node, 1 to 12, as a frame carries it. -/
def nodeNumber (n : Node) : Nat := n.val + 1

/-- The node of a number, if it is 1 to 12. -/
def nodeOf (k : Nat) : Option Node :=
  if h : 1 ≤ k ∧ k ≤ 12 then some ⟨k - 1, by omega⟩ else none

/-- An optional node as a report carries it: 0 when absent. -/
def nodeCode : Option Node → Nat
  | some n => nodeNumber n
  | none => 0

/-- The supervisor's node (R187). -/
def supervisorNode : Nat := 14

/-- A vessel index a frame carries. -/
def vesselOfIndex (k : Nat) : Option VesselIx := if h : k < 4 then some ⟨k, h⟩ else none

/-- A sensor index a frame carries. -/
def sensorOfIndex (k : Nat) : Option SensorIx := if h : k < 16 then some ⟨k, h⟩ else none

/-- A gate index a frame carries (R36). -/
def gateOfIndex (k : Nat) : Option Gate := allGates[k]?

/-! ## Codes (11.6) -/

/-- The class of a code. -/
def classOfCode : Nat → Option Class
  | 0 => some .h
  | 1 => some .f
  | 2 => some .n
  | 3 => some .u
  | _ => none

/-- The code of a class. -/
def classCode : Class → Nat
  | .h => 0
  | .f => 1
  | .n => 2
  | .u => 3

/-- The foam class of a code: code 2 (N) names no foam class (R14, R198). -/
def foamOfCode : Nat → Option FoamClass
  | 0 => some .h
  | 1 => some .f
  | 3 => some .u
  | _ => none

/-- The code of a foam class. -/
def foamCode : FoamClass → Nat
  | .h => 0
  | .f => 1
  | .u => 3

/-- The stages in code order. -/
def stageList : List Stage :=
  [.new, .routed, .claimed, .waitInlet, .evacuating, .vacuumHold, .done1, .batched, .rejected]

/-- The stage of a code. -/
def stageOfCode (k : Nat) : Option Stage := stageList[k]?

/-- The code of a stage. -/
def stageCode : Stage → Nat
  | .new => 0
  | .routed => 1
  | .claimed => 2
  | .waitInlet => 3
  | .evacuating => 4
  | .vacuumHold => 5
  | .done1 => 6
  | .batched => 7
  | .rejected => 8

/-- A zone code with the node that goes with STATION. -/
inductive ZoneCode where
  | intake
  | lane (l : Lane)
  | station
  | buffer
  | chamber
  | exit
  deriving DecidableEq, Repr

/-- The zone of a code. -/
def zoneOfCode : Nat → Option ZoneCode
  | 0 => some .intake
  | 1 => some (.lane .a)
  | 2 => some (.lane .b)
  | 3 => some (.lane .c)
  | 4 => some .station
  | 5 => some .buffer
  | 6 => some .chamber
  | 7 => some .exit
  | _ => none

/-- The zone code of a place. -/
def placeCode : Place → Nat
  | .intake => 0
  | .lane .a => 1
  | .lane .b => 2
  | .lane .c => 3
  | .station _ => 4
  | .buffer => 5
  | .chamber => 6
  | .exit => 7

/-- The code of a verdict. -/
def verdictCode : Verdict → Nat
  | .none => 0
  | .complete => 1
  | .short => 2
  | .over => 3
  | .undeclared => 4
  | .unmeasured => 5
  | .empty => 6

/-- The hold reasons in code order. -/
def reasonList : List HoldReason :=
  [.jam, .stationLost, .classConflict, .leak, .scaleFault, .overYield, .chamberAbort, .manual]

/-- The hold reason of a code. -/
def holdReasonOfCode (k : Nat) : Option HoldReason := reasonList[k]?

/-- The code of a hold reason. -/
def holdReasonCode : HoldReason → Nat
  | .jam => 0
  | .stationLost => 1
  | .classConflict => 2
  | .leak => 3
  | .scaleFault => 4
  | .overYield => 5
  | .chamberAbort => 6
  | .manual => 7

/-- The code of a status. -/
def statusCode : Status → Nat
  | .done => 0
  | .queued => 1
  | .refused => 2

/-- The code of a refusal reason; 0 is none. -/
def reasonCode : Option Reason → Nat
  | none => 0
  | some .notJoined => 1
  | some .notPermitted => 2
  | some .unknownTag => 3
  | some .duplicateTag => 4
  | some .zoneFull => 5
  | some .notEligible => 6
  | some .badStage => 7
  | some .busy => 8
  | some .badValue => 9
  | some .lineState => 10
  | some .queueFull => 11
  | some .noneAvailable => 12
  | some .unknownKind => 13

/-! ## The frame identifier (R197) and the receive filter (R188) -/

/-- The low byte of a number. -/
def byteOf (n : Nat) : Byte := BitVec.ofNat 8 n

/-- The kind code of an answer (R192). -/
def answerCode : Nat := 0x40

/-- The kind code of a notice (R193). -/
def noticeCode : NoticeBody → Nat
  | .grant .. => 0x81
  | .evacEnd .. => 0x82
  | .holdResult .. => 0x83
  | .stageDone .. => 0x84
  | .holdRaised .. => 0x85
  | .stationLost .. => 0x86
  | .limit .. => 0x87
  | .phase .. => 0x88
  | .vessel .. => 0x89
  | .discharge .. => 0x8A

/-- Bytes 0 to 2 of an answer's part 0: status, refusal reason, kind code answered (R197). -/
def headBytes (status : Status) (reason : Option Reason) (kind : Nat) : List Byte :=
  [byteOf (statusCode status), byteOf (reasonCode reason), byteOf kind]

/-- Identifier bits 28 to 21: the kind code. -/
def frameKind (f : Frame) : Nat := (f.ident.extractLsb' 21 8).toNat

/-- Identifier bits 20 to 17: the source node. -/
def frameSource (f : Frame) : Nat := (f.ident.extractLsb' 17 4).toNat

/-- Identifier bits 16 to 13: the destination node. -/
def frameDest (f : Frame) : Nat := (f.ident.extractLsb' 13 4).toNat

/-- An identifier formed from its fields, bits 9 to 0 zero. -/
def identOf (kind source dest part : Nat) : BitVec 29 :=
  BitVec.ofNat 29 (kind % 256 * 2 ^ 21 + source % 16 * 2 ^ 17 + dest % 16 * 2 ^ 13 + part % 8 * 2 ^ 10)

/-- A field of so many bytes: the bytes given, and zero in those that are not filled (R192). -/
def zeroFilled (length : Nat) (b : List Byte) : List Byte := (b ++ List.replicate length 0).take length

/-- The bytes of a result: none where a rule fills none, those of R199, and else the free value of an open layout (R192,
assumption 4). -/
def resultBytes : Result → List Byte
  | .empty => []
  | .bytes b => b
  | r => Config.resultBytes r

/-- The data field of an answer frame: in part 0 the head and five result bytes, in a later part eight (R192, R197). -/
def answerData : AnswerBody → List Byte
  | .head status reason kind result => headBytes status reason kind ++ zeroFilled 5 (resultBytes result)
  | .more result => zeroFilled 8 (resultBytes result)

/-- The result that an answer frame carries. -/
def AnswerBody.result : AnswerBody → Result
  | .head _ _ _ r => r
  | .more r => r

/-- A frame of the transmit queue as it is sent: ANSWER, source 0, its destination and part index (R187, R192, R197). -/
def formAnswer (a : AnswerFrame) : OutFrame where
  ident := identOf answerCode 0 a.dest a.part
  data := answerData a.body
  items := .result a.body.result

/-- One frame of a notice as it is sent: the notice's code, source 0, its destination and part index (R187, R193, R197). Which
items stand in which of its frames is open: each carries them all as named items, over data bytes of its own (assumption
40). -/
def formNotice (n : Notice) (part : Nat) : OutFrame where
  ident := identOf (noticeCode n.body) 0 n.dest part
  data := (Config.noticeBytes n.body part).take 8
  items := .notice n.body

/-- Who sent a frame: a station or the supervisor. No other node passes the receive filter. -/
inductive Sender where
  | station (n : Node)
  | supervisor
  deriving DecidableEq, Repr

/-- The sender a source node stands for (R187). -/
def senderOf (k : Nat) : Option Sender :=
  if k = supervisorNode then some .supervisor else (nodeOf k).map .station

/-- The sender of a frame. -/
def frameSender (f : Frame) : Option Sender := senderOf (frameSource f)

/-- The receive filter: an extended data frame received without bus error, of the format's 0 to 8 data bytes, to node 0,
from a station or the supervisor (R187, R188, assumption 29). -/
def frameAccepted (f : Frame) : Bool :=
  f.extended && !f.remote && !f.busError && decide (f.data.length ≤ 8) && frameDest f == 0 && (frameSender f).isSome

/-! ## The message-set table (11.2, 11.3) -/

/-- The request kinds. -/
inductive ReqKind where
  | join | leave | pulse | enrol | look | claimNext | reclaim | classFound | inletRequest | pressure | reEvacuate | release
  | configWrite | configRead | recipeWrite | recipeCommit | lineStart | lineOpen | lineResume | lineReset | adopt
  | recordRead | zoneRead | stationStatus | vesselStatus | sensorStatus | chamberStatus | hold | clearHold | dispose
  | retire | override | vesselOnline | vesselOffline | bar | unbar | gateClear | chamberRestart | chamberClear
  deriving DecidableEq, Repr

/-- One row of the message-set table. -/
structure ReqRow where
  kind     : ReqKind
  code     : Nat
  minBytes : Nat
  frames   : Nat
  deriving DecidableEq, Repr

/-- The message-set table (11.2). -/
def reqTable : List ReqRow := [
  ⟨.join, 0x11, 2, 1⟩, ⟨.leave, 0x12, 0, 1⟩, ⟨.pulse, 0x13, 0, 1⟩, ⟨.enrol, 0x14, 8, 1⟩, ⟨.look, 0x15, 4, 2⟩,
  ⟨.claimNext, 0x16, 0, 1⟩, ⟨.reclaim, 0x17, 5, 1⟩, ⟨.classFound, 0x18, 5, 1⟩, ⟨.inletRequest, 0x19, 4, 1⟩,
  ⟨.pressure, 0x1A, 7, 1⟩, ⟨.reEvacuate, 0x1B, 4, 1⟩, ⟨.release, 0x1C, 4, 1⟩,
  ⟨.configWrite, 0x21, 3, 1⟩, ⟨.configRead, 0x22, 2, 1⟩, ⟨.recipeWrite, 0x23, 4, 1⟩, ⟨.recipeCommit, 0x24, 0, 1⟩,
  ⟨.lineStart, 0x25, 0, 1⟩, ⟨.lineOpen, 0x26, 0, 1⟩, ⟨.lineResume, 0x27, 0, 1⟩, ⟨.lineReset, 0x28, 0, 1⟩,
  ⟨.adopt, 0x29, 6, 1⟩, ⟨.recordRead, 0x2A, 4, 5⟩, ⟨.zoneRead, 0x2B, 3, 3⟩, ⟨.stationStatus, 0x2C, 1, 3⟩,
  ⟨.vesselStatus, 0x2D, 1, 3⟩, ⟨.sensorStatus, 0x2E, 1, 3⟩, ⟨.chamberStatus, 0x2F, 0, 4⟩, ⟨.hold, 0x30, 4, 1⟩,
  ⟨.clearHold, 0x31, 5, 1⟩, ⟨.dispose, 0x32, 4, 1⟩, ⟨.retire, 0x33, 4, 1⟩, ⟨.override, 0x34, 6, 1⟩,
  ⟨.vesselOnline, 0x35, 4, 1⟩, ⟨.vesselOffline, 0x36, 1, 1⟩, ⟨.bar, 0x37, 1, 1⟩, ⟨.unbar, 0x38, 1, 1⟩,
  ⟨.gateClear, 0x39, 1, 1⟩, ⟨.chamberRestart, 0x3A, 0, 1⟩, ⟨.chamberClear, 0x3B, 0, 1⟩]

/-- The row of a kind. -/
def ReqKind.row (k : ReqKind) : ReqRow := (reqTable.find? (·.kind == k)).getD ⟨k, 0, 0, 1⟩

/-- The kind code of a request. -/
def ReqKind.code (k : ReqKind) : Nat := k.row.code

/-- The shortest data field a request must carry. -/
def ReqKind.minBytes (k : ReqKind) : Nat := k.row.minBytes

/-- The frames of a DONE or QUEUED answer. -/
def ReqKind.frames (k : ReqKind) : Nat := k.row.frames

/-- A code that names a request. -/
def isRequestCode (code : Nat) : Bool := reqTable.any (·.code == code)

/-- What a station of a kind may send (11.3). -/
def ReqKind.stationMay (k : ReqKind) (kind : Option StationKind) : Bool :=
  match k with
  | .join | .leave | .pulse | .look => true
  | .enrol => kind == some .intake
  | .claimNext | .reclaim | .classFound | .inletRequest | .pressure | .reEvacuate | .release => kind == some .extract
  | _ => false

/-- What the supervisor may send (11.3). -/
def ReqKind.supervisorMay (k : ReqKind) : Bool :=
  match k with
  | .join | .leave | .pulse => false
  | .claimNext | .reclaim | .classFound | .inletRequest | .pressure | .reEvacuate | .release => false
  | _ => true

/-- The requests that SR refuses with LINE_STATE while the line is STOPPED (R52). -/
def ReqKind.refusedInStopped (k : ReqKind) : Bool :=
  match k with
  | .claimNext | .inletRequest | .reEvacuate | .release => true
  | _ => false

/-! ## The data field of Enrol (R198) and the values of a new cabinet (R14) -/

/-- Byte i of the data field. -/
def frameByte (f : Frame) (i : Nat) : Nat := (f.data.getD i 0).toNat

/-- The fields of an Enrol as its bytes spell them. -/
structure EnrolFields where
  tag             : Tag
  classCode       : Nat
  foamCode        : Nat
  charge          : WeightCharge
  overridePresent : Bool
  overrideSeconds : Nat
  deriving DecidableEq, Repr

/-- The layout of R198. -/
def frameEnrol (f : Frame) : EnrolFields :=
  let word := frameByte f 6 * 256 + frameByte f 7
  { tag := BitVec.ofNat 32 (frameByte f 0 * 2 ^ 24 + frameByte f 1 * 2 ^ 16 + frameByte f 2 * 2 ^ 8 + frameByte f 3)
    classCode := frameByte f 4 / 64
    foamCode := frameByte f 4 / 16 % 4
    charge :=
      { foamWeight := word / 2048
        declaredPresent := frameByte f 4 / 8 % 2 == 1
        declared := word % 2048 }
    overridePresent := frameByte f 4 / 4 % 2 == 1
    overrideSeconds := frameByte f 4 % 4 * 256 + frameByte f 5 }

/-- Tag values that never belong to a record (R2). -/
def reservedTag (t : Tag) : Bool := t == 0 || t == BitVec.allOnes 32

/-- The values of a new cabinet, checked and clamped (R14). -/
structure NewCabinet where
  tag            : Tag
  cls            : Class
  foamClass      : FoamClass
  foamWeight     : Nat
  declaredCharge : Option Nat
  dwellOverride  : Option Nat
  deriving DecidableEq, Repr

/-- The checks and clamps of R14: none where a value is refused with BAD_VALUE. -/
def checkCabinet (tag : Tag) (clsCode fmCode : Nat) (w : WeightCharge) (dwell : Option Nat) : Option NewCabinet :=
  if reservedTag tag then none
  else if w.declaredPresent && (w.declared == 0 || decide (2000 < w.declared)) then none
  else
    match classOfCode clsCode, foamOfCode fmCode with
    | some c, some fm =>
      some
        { tag := tag
          cls := c
          foamClass := fm
          foamWeight := clampNat 1 30 w.foamWeight
          declaredCharge := if w.declaredPresent then some w.declared else none
          dwellOverride := dwell.map fun d => clampNat 10 600 d }
    | _, _ => none

/-- The value fields of an Enrol, checked and clamped. -/
def enrolCabinet (f : Frame) : Option NewCabinet :=
  let e := frameEnrol f
  checkCabinet e.tag e.classCode e.foamCode e.charge (if e.overridePresent then some e.overrideSeconds else none)

/-- The tag a stream class names in the queues: the stream class that serves a class, if one does (R89). -/
def streamOf : Class → Option Stream
  | .h => some .h
  | .f => some .f
  | _ => none

/-- The class of a stream class. -/
def classOfStream : Stream → Class
  | .h => .h
  | .f => .f

end Sys2Proof.Machine
end

