-- ==== Sys2Proof/Machine/Flags.lean ====
section
/-!
DEFINITION. What is read from the state without changing it: deadlines and ages (R72), lookups (R2), hold marks (11.6), free
places (R26), coverage (R64), and the chamber's conditions on gas, trap and door (R136, R157, R168).
-/

namespace Sys2Proof.Machine

/-! ## Deadlines and ages (R72) -/

/-- A deadline is reached when the clock less the deadline, modulo 2^32, is less than 2^31. -/
def reached (now deadline : Clock) : Bool := decide ((now - deadline).toNat < 2 ^ 31)

/-- The age of a stamp in milliseconds. -/
def ageMs (now stamp : Clock) : Nat := (now - stamp).toNat

/-- The age of a stamp in whole seconds, truncated, saturating at the limit its report names. -/
def ageSeconds (now stamp : Clock) (limit : Nat) : Nat := min (ageMs now stamp / 1000) limit

/-- The age in seconds of a stamp that can be absent: 65,535 stands for an absent one, and an age saturates at 65,534. -/
def optAgeSeconds (now : Clock) : Option Clock → Nat
  | some st => ageSeconds now st 65534
  | none => 65535

/-- The age in milliseconds of a stamp that can be absent, in the same form (R152, R153). -/
def optAgeMs (now : Clock) : Option Clock → Nat
  | some st => min (ageMs now st) 65534
  | none => 65535

/-- The milliseconds from the clock to a deadline or point: none where it is reached (R72, R73, assumption 6). -/
def timeLeft (now deadline : Clock) : Nat := if reached now deadline then 0 else (deadline - now).toNat

/-- The remaining time of a channel in milliseconds (R73): the deadline less the clock while RUNNING, the held time while
FROZEN, 0 while IDLE. -/
def remainingMs (now : Clock) (c : Channel) : Nat :=
  match c.run with
  | .idle => 0
  | .running d => timeLeft now d
  | .frozen r => r

/-- The state of a channel as it is reported. -/
def reportedRun (c : Channel) : ReportedRun :=
  match c.run with
  | .idle => .idle
  | .running _ => .running
  | .frozen _ => .frozen

/-- The state of a station channel as EC reads it: IDLE or RUNNING as a deadline, WAITING, OPEN or IDLE as a window (R73,
R76). -/
inductive ReportedStation where
  | idle | running | waiting | opened
  deriving DecidableEq, Repr

/-- What EC reads of a station channel's state. -/
def scReported (c : StationChannel) : ReportedStation :=
  match c.run with
  | .idle => .idle
  | .deadline _ => .running
  | .waiting .. => .waiting
  | .opened _ => .opened

/-- What EC reads of a station channel's time in milliseconds: to the deadline, or to the next point of a window (R73, R76). -/
def scRemainingMs (now : Clock) (c : StationChannel) : Nat :=
  match c.run with
  | .idle => 0
  | .deadline d => timeLeft now d
  | .waiting o _ => timeLeft now o
  | .opened cl => timeLeft now cl

/-! ## Records and holds -/

/-- The one record with a tag. Reserved tag values find none (R2). -/
def lookup (s : State) (t : Tag) : Option Record :=
  if reservedTag t then none else s.records.find? (·.tag == t)

/-- The record carries a hold reason. -/
def carries (r : Record) (h : HoldReason) : Bool := r.holds.any (·.reason == h)

/-- The record carries any hold. -/
def isHeld (r : Record) : Bool := !r.holds.isEmpty

/-- One mark for each reason held: bit 7 JAM down to bit 0 MANUAL (11.6). -/
def holdMarks (r : Record) : HoldMarks :=
  BitVec.ofNat 8 ((reasonList.filter (carries r)).foldl (fun m h => m + 2 ^ (7 - holdReasonCode h)) 0)

/-- The effective dwell in seconds (R17); 0 for a record of class N or U with no override. -/
def effectiveDwell (s : State) (r : Record) : Nat :=
  match r.dwellOverride with
  | some d => d
  | none =>
    match r.cls with
    | .h => s.cfg.dwellH
    | .f => s.cfg.dwellF
    | _ => 0

/-! ## Zones and gates -/

/-- The records of a zone, head first. A station position holds the record its entry claims (R27). -/
def zoneList (s : State) : Place → List Tag
  | .intake => s.zu.intake
  | .lane l => s.zu.lanes.get l
  | .station n => (s.stations[n].claim).toList
  | .buffer => s.zu.buffer
  | .chamber => s.zu.chamber
  | .exit => s.zu.exit

/-- The capacity of a zone (R25). -/
def capacity (s : State) : Place → Nat
  | .intake => s.cfg.capIntake
  | .lane l => s.cfg.capLanes.get l
  | .station _ => 1
  | .buffer => s.cfg.capBuffer
  | .chamber => Config.chamberCapacity
  | .exit => s.cfg.capExit

/-- The gate that leads into a zone (R49). -/
def gateInto : Place → Option Gate
  | .lane l => some (.lane l)
  | .chamber => some .feed
  | _ => none

/-- A place of the zone is reserved: a record is in passage through the gate in front of it (R26, R32). -/
def hasReserved (s : State) (p : Place) : Bool :=
  match gateInto p with
  | some g => (s.zu.gates.get g).passing.isSome
  | none => false

/-- A zone has a free place when its occupancy plus its reserved places is less than its capacity (R26). -/
def hasFreePlace (s : State) (p : Place) : Bool :=
  decide ((zoneList s p).length + (if hasReserved s p then 1 else 0) < capacity s p)

/-- The station position that holds a record. -/
def positionOf (s : State) (t : Tag) : Option Node := allNodes.find? fun n => s.stations[n].claim == some t

/-- Where a record stands: the zone list that holds it (R5). -/
def placeOf (s : State) (t : Tag) : Option Place :=
  if s.zu.intake.contains t then some .intake
  else if s.zu.lanes.a.contains t then some (.lane .a)
  else if s.zu.lanes.b.contains t then some (.lane .b)
  else if s.zu.lanes.c.contains t then some (.lane .c)
  else if s.zu.buffer.contains t then some .buffer
  else if s.zu.chamber.contains t then some .chamber
  else if s.zu.exit.contains t then some .exit
  else (positionOf s t).map .station

/-- The record is in passage through a gate. -/
def inPassage (s : State) (t : Tag) : Bool := allGates.any fun g => (s.zu.gates.get g).passing == some t

/-- The rating of a lane covers a class (R30). -/
def ratingCovers : Rating → Class → Bool
  | .closed, _ => false
  | .h, .h => true
  | .h, .n => true
  | .h, _ => false
  | .hf, _ => true

/-! ## Stations -/

/-- A granted set covers a class (R64). -/
def covers (g : Abilities) : Class → Bool
  | .h => g.h
  | .f => g.f
  | .n => g.n
  | .u => g.sniff

/-- The granted set of a Join (R54): offered, cut for an EXTRACT station to the rating of its lane with N and SNIFF. -/
def grantedSet (offered : Abilities) (kind : StationKind) (rating : Rating) : Abilities :=
  match kind with
  | .intake => offered
  | .extract =>
    { h := offered.h && rating != .closed
      f := offered.f && rating == .hf
      n := offered.n
      sniff := offered.sniff }

/-- The entry is JOINED on the lane with SNIFF granted (R29, R30). -/
def sniffsOn (e : StationEntry) (l : Lane) : Bool := e.state == .joined && e.lane == some l && e.granted.sniff

/-- The tag of a claim, 0 when there is none. -/
def claimTag (e : StationEntry) : Tag := e.claim.getD 0

/-! ## Vessels -/

/-- The vessel bound to a record, if one is. -/
def boundVessel (s : State) (t : Tag) : Option VesselIx :=
  allVessels.find? fun v => (s.vu.vessels[v].bound.map (·.1)) == some t

/-- The inlet queue of a stream class. -/
def inletQueue (s : State) : Stream → List InletEntry
  | .h => s.vu.inqH
  | .f => s.vu.inqF

/-! ## The chamber's conditions -/

/-- The reading of an LEL sensor, where it counts: not in FAULT, with a latest sample, of kind LEL (R136, R157). -/
def lelReading (s : State) (i : SensorIx) : Option Int :=
  let e := s.sn.sensors[i]
  if e.kind == .lel && e.state != .fault then e.latest.map (·.1) else none

/-- The effective LEL (R136): the larger of the readings that count. -/
def effectiveLel (s : State) : Option Int :=
  match lelReading s s.cs.working.lel1Sensor, s.cs.working.lel2Sensor.bind (lelReading s) with
  | some a, some b => some (max a b)
  | some a, none => some a
  | none, b => b

/-- The O2 entry is in FAULT or INIT, is disabled, or is not of kind O2 (R157). -/
def o2Unusable (s : State) : Bool :=
  let e := s.sn.sensors[s.cs.working.o2Sensor]
  e.state == .fault || e.state == .init || !e.enabled || e.kind != .o2

/-- The latest O2 value. -/
def latestO2 (s : State) : Option Int := s.sn.sensors[s.cs.working.o2Sensor].latest.map (·.1)

/-- The gas sensors are failed (R157). -/
def gasFailed (s : State) : Bool := o2Unusable s || (effectiveLel s).isNone

/-- The trap entry is of kind TEMP, not in FAULT and has a latest value. -/
def trapUsable (s : State) : Bool :=
  let e := s.sn.sensors[s.cs.working.trapSensor]
  e.kind == .temp && e.state != .fault && e.latest.isSome

/-- The latest trap temperature. -/
def latestTrap (s : State) : Option Int := s.sn.sensors[s.cs.working.trapSensor].latest.map (·.1)

/-- The trap is cold (R168): usable, at or below trap_max. -/
def trapCold (s : State) : Bool :=
  trapUsable s && (latestTrap s).any fun v => decide (v ≤ s.cs.working.trapMax)

/-- The filtered door level (R84). -/
def doorClosed (s : State) : Bool := s.tu.door.filtered

/-- The effective LEL is at or above a threshold. Not judged under failed gas sensors (R157, assumption
17). -/
def lelAtLeast (s : State) (limit : Nat) : Bool :=
  !gasFailed s && (effectiveLel s).any fun v => decide ((limit : Int) ≤ v)

/-- The effective LEL is at or below a threshold. -/
def lelAtMost (s : State) (limit : Nat) : Bool :=
  !gasFailed s && (effectiveLel s).any fun v => decide (v ≤ (limit : Int))

/-- The latest O2 is at or above a threshold. -/
def o2AtLeast (s : State) (limit : Nat) : Bool :=
  !gasFailed s && (latestO2 s).any fun v => decide ((limit : Int) ≤ v)

/-- The latest O2 is above a threshold. -/
def o2Above (s : State) (limit : Nat) : Bool :=
  !gasFailed s && (latestO2 s).any fun v => decide ((limit : Int) < v)

/-- The latest O2 is at or below a threshold. -/
def o2AtMost (s : State) (limit : Nat) : Bool :=
  !gasFailed s && (latestO2 s).any fun v => decide (v ≤ (limit : Int))

/-- The conditions under which SHRED_DRIVE may be on (R157). -/
def shredInterlock (s : State) : Bool :=
  s.cs.phase == .shredding && doorClosed s && o2AtMost s s.cs.working.o2ShredMax && !gasFailed s
    && !lelAtLeast s s.cs.working.lelPause

/-- The pattern of a phase. SAFE has the fixed pattern of R156. -/
def patternOf (r : Recipe) : Phase → PatternRow
  | .idle => r.patterns.idle
  | .loading => r.patterns.loading
  | .sealing => r.patterns.sealing
  | .purging => r.patterns.purging
  | .shredding => r.patterns.shredding
  | .paused => r.patterns.paused
  | .condensing => r.patterns.condensing
  | .unloading => r.patterns.unloading
  | .aborted => r.patterns.aborted
  | .safe => ⟨.off, true, false, false, false, false, true, false, false, false⟩

/-- The foam class counts against the batch limit (R161). -/
def countsAsF (c : FoamClass) : Bool :=
  match c with
  | .h => false
  | _ => true

/-- The records of a list with foam class F or U (R154). -/
def ffCountOf (s : State) (ts : List Tag) : Nat :=
  (ts.filter fun t => (lookup s t).any fun r => countsAsF r.foamClass).length

/-- A BUFFER record is a candidate for the batch: no holds, a verdict other than NONE (R161). -/
def isCandidate (s : State) (t : Tag) : Bool := (lookup s t).any fun r => !isHeld r && r.verdict != .none

/-- A candidate is barred: foam class F or U while ff_count equals f_foam_max (R161). -/
def isBarred (s : State) (t : Tag) : Bool :=
  (lookup s t).any fun r => countsAsF r.foamClass && s.cs.ffCount == s.cs.working.fFoamMax

end Sys2Proof.Machine
end

