-- ==== Sys2Proof/Machine/Accounting.lean ====
section
/-!
DEFINITION. The accounting arithmetic (AA), chapter 07: exact whole numbers, with the rounding each rule names. AA holds no
state; the results are written by VU and CS.
-/

namespace Sys2Proof.Machine

/-- Division rounded half away from zero (Conventions), for a positive divisor. -/
def roundHalfAway (n : Int) (d : Nat) : Int :=
  if 0 ≤ n then (2 * n + d) / (2 * d) else -((2 * (-n) + d) / (2 * d))

/-! ## Scale samples (7.2) -/

/-- A scale count that is converted: 1 to 65,534 (R125). The end values of the range are SATURATED. -/
def convertible (raw : Int) : Bool := decide (1 ≤ raw) && decide (raw ≤ 65534)

/-- The gross mass of a raw count (R125). -/
def grossOf (raw : Int) (zeroCount span : Nat) : Int := roundHalfAway ((raw - zeroCount) * span) 1024

/-- The fill limit of a vessel (R106, R126). -/
def fillLimit (v : Vessel) : Nat := v.capacityG * v.fillPm / 1000

/-- The vessel is full: net_g at or above the fill limit (R126). -/
def netIsFull (v : Vessel) : Bool := v.netG.any fun n => decide ((fillLimit v : Int) ≤ n)

/-- The fill in per mille that Vessel Status reports (R123). -/
def fillPerMille (v : Vessel) : Nat :=
  match v.netG with
  | some n => clampNat 0 1999 (Int.fdiv (n * 1000) v.capacityG)
  | none => 0

/-! ## Booking a transfer (7.3) -/

/-- The saturating sum of booked_total_g (R127). -/
def addBooked (total delta : Int) : Int := clampInt (-2147483648) 2147483647 (total + delta)

/-- The oil fraction of a class in per mille (R124). Classes N and U have none; no booking is made on them (R107,
assumption 23). -/
def oilPm (c : ConfigTables) : Class → Nat
  | .h => c.oilPmH
  | .f => c.oilPmF
  | _ => 0

/-- The refrigerant of a measured booking (R129). -/
def refrigerant (delta : Int) (oil : Nat) : Nat := (roundHalfAway (max delta 0 * (1000 - oil)) 1000).toNat

/-- The yield in per mille, limited to 1,999 (R131). -/
def yieldPm (recovered declared : Nat) : Nat := min (recovered * 1000 / declared) 1999

/-- The verdict of a measured booking (R131). -/
def verdictOf (c : ConfigTables) (recovered : Nat) : Option Nat → Verdict
  | none => .undeclared
  | some d =>
    let y := yieldPm recovered d
    if y < c.completeMin then .short else if y ≤ c.overMax then .complete else .over

/-- The record's fields after a measured booking of a delta by a vessel (R129 to R131). -/
def bookMeasured (c : ConfigTables) (v : VesselIx) (delta : Int) (r : Record) : Record :=
  let recovered := min (r.recovered + refrigerant delta (oilPm c r.cls)) 9999
  { r with
    vessel := some v
    transfers := min (r.transfers + 1) 4
    recovered := recovered
    verdict := verdictOf c recovered r.declaredCharge }

/-- The record's fields after an UNMEASURED booking (R132). -/
def bookUnmeasured (v : VesselIx) (r : Record) : Record :=
  { r with vessel := some v, transfers := min (r.transfers + 1) 4, verdict := .unmeasured }

/-! ## Foam apportionment (7.4) -/

/-- The condensate total (R134). -/
def condensateTotal (baseline final : Int) : Nat := clampNat 0 65535 (final - baseline)

/-- The floor share of each weight and its remainder (R135). -/
def floorShares (total : Nat) (weights : List Nat) : List (Nat × Nat) :=
  weights.map fun w => (total * w / weights.sum, total * w % weights.sum)

/-- How many positions come before position i when remainders are ordered largest first, and equal ones in batch order. -/
def remainderRank (rems : List Nat) (i : Nat) : Nat :=
  let own := rems.getD i 0
  ((List.range rems.length).filter fun j => decide (own < rems.getD j 0) || (rems.getD j 0 == own && decide (j < i))).length

/-- The shares of a total among the records of a batch, in batch list order (R135). -/
def apportion (total : Nat) (weights : List Nat) : List Nat :=
  let fs := floorShares total weights
  let leftover := total - (fs.map (·.1)).sum
  let rems := fs.map (·.2)
  (List.range fs.length).map fun i =>
    (fs.getD i (0, 0)).1 + (if remainderRank rems i < leftover then 1 else 0)

/-! ## Nitrogen duty (7.5) -/

/-- A duty limited to the range from duty_min to 256 (R137). -/
def limitDuty (r : Recipe) (d : Int) : Nat := clampNat r.dutyMin 256 d

/-- The duty of an effective LEL (R137): truncated toward zero. -/
def nitrogenDuty (r : Recipe) (lel : Int) : Nat :=
  limitDuty r (r.dutyBase + Int.tdiv ((lel - r.lelTarget) * r.kp) 16)

/-- The duty staged at the entry into a PWM phase other than PAUSED (R137, R156). -/
def entryDuty (r : Recipe) : Nat := limitDuty r r.dutyBase

/-! ## The check byte of a poll (R144) -/

/-- One shift of the remainder. -/
def crcShift (x : Byte) : Byte := if x.msb then (x <<< 1) ^^^ 0x31#8 else x <<< 1

/-- One data byte taken into the remainder. -/
def crcByte (crc x : Byte) : Byte := Nat.repeat crcShift 8 (crc ^^^ x)

/-- The check byte over the two data bytes, in the order received. -/
def checkByte (high low : Byte) : Byte := crcByte (crcByte 0xFF#8 high) low

/-- The 16-bit data word that a transaction yields, if it succeeds (R143). -/
def transactionWord : Transaction → Option Nat
  | .nack _ => none
  | .bytes high low check => if check = checkByte high low then some (high.toNat * 256 + low.toNat) else none

/-- The outcome of a poll: the word of the first transaction, or of the one retry, or none for a failed poll (R145). -/
def pollWord (first retry : Transaction) : Option Nat := (transactionWord first).or (transactionWord retry)

/-- A data word decoded by the kind of its entry (R146). -/
def decodeSample (k : SensorKind) (word : Nat) : Int :=
  match k with
  | .o2 => min word 250
  | .lel => min word 1000
  | .temp => clampInt (-1000) 1000 (if word < 32768 then word else (word : Int) - 65536)
  | .scale => word

/-- A scale count at the end of its raw range (R146). -/
def isSaturated (k : SensorKind) (word : Nat) : Bool := k == .scale && (word == 0 || word == 65535)

end Sys2Proof.Machine
end

