-- ==== Sys2Proof/Machine/Ops.lean ====
section
/-!
DEFINITION. The shared operations: TU's channels, LP's queues, record updates, the hold set, the sample requests, the inlet
queues and the grant. Every block's rules are written over them.
-/

namespace Sys2Proof.Machine

/-! ## TU: deadline and phase-time channels (R73 to R77) -/

/-- TU at a channel: a RUNNING channel whose deadline is reached goes IDLE and its expiry becomes pending at the owner,
carrying the deadline (R73). -/
def chAdvance (now : Clock) (c : Channel) : Channel :=
  match c.run with
  | .running d => if reached now d then ⟨.idle, some d⟩ else c
  | _ => c

/-- A start with a deadline: a new run, RUNNING even where the deadline is already reached, which withdraws a pending expiry of
the old one (R73, R74). -/
def chStart (deadline : Clock) : Channel := ⟨.running deadline, none⟩

/-- A start that holds its whole duration FROZEN (R77). -/
def chStartFrozen (ms : Nat) : Channel := ⟨.frozen ms, none⟩

/-- A stop: IDLE, with any pending expiry withdrawn (R75). -/
def chStopped : Channel := ⟨.idle, none⟩

/-- A freeze holds the remaining time of a RUNNING channel, at least 1 ms, and has no effect on another (R77). -/
def chFreeze (now : Clock) (c : Channel) : Channel :=
  match c.run with
  | .running d => { c with run := .frozen (max 1 (timeLeft now d)) }
  | _ => c

/-- A resume lets a FROZEN channel run out its held time and has no effect on another (R77). -/
def chResume (now : Clock) (c : Channel) : Channel :=
  match c.run with
  | .frozen r => { c with run := .running (now + msec r) }
  | _ => c

/-- The owner takes the pending expiry. -/
def chTaken (c : Channel) : Channel := { c with expiry := none }

/-- The expiry that the owner can take now, by its deadline, and the channel once it is taken: one that is pending, or that of a
RUNNING channel whose deadline is reached, which follows its start as an event of its own (R73, R74, assumption 6). -/
def chDue (now : Clock) (c : Channel) : Option (Clock × Channel) :=
  match c.expiry, c.run with
  | some d, _ => some (d, chTaken c)
  | none, .running d => if reached now d then some (d, chStopped) else none
  | none, _ => none

/-- The restart of a heartbeat counter (R79): a counter that is RUNNING, or whose expiry is still pending at SR, begins a new
run (assumption 7). -/
def chRestart (now : Clock) (ms : Nat) (c : Channel) : Channel :=
  match c.run, c.expiry with
  | .running _, _ => chStart (now + msec ms)
  | _, some _ => chStart (now + msec ms)
  | _, none => c

/-! ## TU: station channels (R73, R76) -/

/-- TU at a station channel: a dwell whose deadline is reached expires; a window whose open point is reached opens; a window
whose close point is reached closes. -/
def scAdvance (now : Clock) (c : StationChannel) : StationChannel :=
  match c.run with
  | .idle => c
  | .deadline d => if reached now d then { c with run := .idle, expiry := some d } else c
  | .waiting o cl =>
    if reached now o then
      if reached now cl then { c with run := .idle, openEv := some o, closeEv := some cl }
      else { c with run := .opened cl, openEv := some o }
    else c
  | .opened cl => if reached now cl then { c with run := .idle, closeEv := some cl } else c

/-- A start as a deadline (R74). -/
def scStartDeadline (deadline : Clock) : StationChannel := ⟨.deadline deadline, none, none, none⟩

/-- A start as a two-point window with a reference and two offsets in seconds, WAITING even where a point is already passed
(R76). -/
def scStartWindow (reference : Clock) (delay stop : Nat) : StationChannel :=
  ⟨.waiting (reference + sec delay) (reference + sec stop), none, none, none⟩

/-- A stop: IDLE, with whatever is pending withdrawn (R75, R76). -/
def scStopped : StationChannel := ⟨.idle, none, none, none⟩

/-- The dwell expiry that EC can take now, by its deadline, and the channel once it is taken (R73, R74, assumption 6). -/
def scDueExpiry (now : Clock) (c : StationChannel) : Option (Clock × StationChannel) :=
  match c.expiry, c.run with
  | some d, _ => some (d, { c with expiry := none })
  | none, .deadline d => if reached now d then some (d, { c with run := .idle }) else none
  | none, _ => none

/-- The channel once EC has taken the window open that it can take now (R74, R76, assumption 6). -/
def scDueOpen (now : Clock) (c : StationChannel) : Option StationChannel :=
  match c.openEv, c.run with
  | some _, _ => some { c with openEv := none }
  | none, .waiting o cl => if reached now o then some { c with run := .opened cl } else none
  | none, _ => none

/-- The channel once EC has taken the window close that it can take now: the open of the run is taken before it (R76). -/
def scDueClose (now : Clock) (c : StationChannel) : Option StationChannel :=
  match c.openEv, c.closeEv, c.run with
  | some _, _, _ => none
  | none, some _, _ => some { c with closeEv := none }
  | none, none, .opened cl => if reached now cl then some { c with run := .idle } else none
  | none, none, _ => none

/-! ## TU: the PWM generator (4.3) -/

/-- A period that begins: its active time in milliseconds (R81). -/
def pwmPeriodAt (start : Clock) (applied period : Nat) : PwmPeriod := ⟨start, period, applied * period / 256⟩

/-- The beginning of a period (R81): the staged duty is applied and pwm_period is read. -/
def pwmBegin (p : Pwm) (start : Clock) (period : Nat) : Pwm :=
  { p with applied := p.staged, current := some (pwmPeriodAt start p.staged period) }

/-- The level of N2_PROP at the beginning of the generator's current period. -/
def pwmLevel (p : Pwm) : Bool := p.current.any fun c => decide (0 < c.activeTime)

/-- A stop (R81): STOPPED at once, applied duty 0, staged duty kept. -/
def pwmStop (p : Pwm) : Pwm := { p with current := none, applied := 0 }

/-- A write of the staged duty (R82). -/
def stageDuty (s : State) (d : Nat) : State := { s with tu.pwm.staged := min d 256 }

/-! ## LP: the notice queue and the transmit queue -/

/-- A notice is placed at the tail of the notice queue, or discarded when the queue is full (R193). -/
def placeNotice (s : State) (dest : Nat) (body : NoticeBody) : State :=
  if s.lp.notices.length < Config.queueDepth then { s with lp.notices := s.lp.notices ++ [⟨dest, body⟩] } else s

/-- A notice to the supervisor. -/
def toSupervisor (s : State) (body : NoticeBody) : State := placeNotice s supervisorNode body

/-- A notice to the station that holds a record's claim, if one does (R105). -/
def toStation (s : State) (n : Option Node) (body : NoticeBody) : State :=
  match n with
  | some k => placeNotice s (nodeNumber k) body
  | none => s

/-- The frames of one answer enter the transmit queue together (R192). -/
def placeAnswer (s : State) (frames : List AnswerFrame) : State := { s with lp.answers := s.lp.answers ++ frames }

/-! ## Updates of one entry -/

/-- A change of the record with a tag (R12). -/
def updRecord (s : State) (t : Tag) (f : Record → Record) : State :=
  { s with records := s.records.map fun r => if r.tag == t then f r else r }

/-- A change of a station entry. -/
def updStation (s : State) (n : Node) (f : StationEntry → StationEntry) : State :=
  { s with stations := s.stations.set n (f s.stations[n]) }

/-- A change of a progress entry. -/
def updProgress (s : State) (n : Node) (f : Progress → Progress) : State :=
  { s with progress := s.progress.set n (f s.progress[n]) }

/-- A change of a vessel entry. -/
def updVessel (s : State) (v : VesselIx) (f : Vessel → Vessel) : State :=
  { s with vu.vessels := s.vu.vessels.set v (f s.vu.vessels[v]) }

/-- A change of a sensor entry. -/
def updSensor (s : State) (i : SensorIx) (f : Sensor → Sensor) : State :=
  { s with sn.sensors := s.sn.sensors.set i (f s.sn.sensors[i]) }

/-- A station channel is set. -/
def setStationChannel (s : State) (n : Node) (c : StationChannel) : State :=
  { s with tu.station := s.tu.station.set n c }

/-- A settle channel is set. -/
def setSettle (s : State) (v : VesselIx) (c : Channel) : State := { s with tu.settle := s.tu.settle.set v c }

/-- A heartbeat counter is set. -/
def setHeartbeat (s : State) (n : Node) (c : Channel) : State := { s with tu.heartbeat := s.tu.heartbeat.set n c }

/-- A gate is set. -/
def setGate (s : State) (g : Gate) (e : GateEntry) : State := { s with zu.gates := s.zu.gates.set g e }

/-- A passage channel is set. -/
def setPassage (s : State) (g : Gate) (c : Channel) : State := { s with tu.passage := s.tu.passage.set g c }

/-- The stage of a record is set. -/
def setStage (s : State) (t : Tag) (st : Stage) : State := updRecord s t fun r => { r with stage := st }

/-- SR has TU start a node's heartbeat counter (R58, R79). -/
def startHeartbeat (s : State) (n : Node) : State :=
  setHeartbeat s n (chStart (s.clock + msec s.cfg.heartbeatTimeout))

/-! ## Zone lists (R24) -/

/-- A record leaves a zone list, and the records behind it close up. -/
def takeOut (s : State) (p : Place) (t : Tag) : State :=
  match p with
  | .intake => { s with zu.intake := s.zu.intake.filter (· != t) }
  | .lane l => { s with zu.lanes := s.zu.lanes.set l ((s.zu.lanes.get l).filter (· != t)) }
  | .station n => updStation s n fun e => { e with claim := none }
  | .buffer => { s with zu.buffer := s.zu.buffer.filter (· != t) }
  | .chamber => { s with zu.chamber := s.zu.chamber.filter (· != t) }
  | .exit => { s with zu.exit := s.zu.exit.filter (· != t) }

/-- A record enters a zone list at its tail. -/
def putTail (s : State) (p : Place) (t : Tag) : State :=
  match p with
  | .intake => { s with zu.intake := s.zu.intake ++ [t] }
  | .lane l => { s with zu.lanes := s.zu.lanes.set l (s.zu.lanes.get l ++ [t]) }
  | .station n => updStation s n fun e => { e with claim := some t }
  | .buffer => { s with zu.buffer := s.zu.buffer ++ [t] }
  | .chamber => { s with zu.chamber := s.zu.chamber ++ [t] }
  | .exit => { s with zu.exit := s.zu.exit ++ [t] }

/-- A record returned to its lane stands at the head (R24, R40). -/
def putHead (s : State) (l : Lane) (t : Tag) : State :=
  { s with zu.lanes := s.zu.lanes.set l (t :: s.zu.lanes.get l) }

/-! ## SN: requests for a next sample (R150) -/

/-- A requester asks for the next sample of an entry. An entry that is disabled or in FAULT answers unusable, at once
after the event. -/
def requestSample (s : State) (r : Requester) (i : SensorIx) : State :=
  if !s.sn.sensors[i].enabled || s.sn.sensors[i].state == .fault then
    { s with sn.immediate := s.sn.immediate ++ [r] }
  else { s with sn.requests := s.sn.requests ++ [⟨r, i⟩] }

/-- A requester withdraws its request. -/
def withdrawSample (s : State) (r : Requester) : State :=
  { s with
    sn.requests := s.sn.requests.filter (·.requester != r)
    sn.immediate := s.sn.immediate.filter (· != r) }

/-! ## VU: inlet queues and the grant (6.3) -/

/-- The inlet queue of a stream class is set. -/
def setInletQueue (s : State) (c : Stream) (q : List InletEntry) : State :=
  match c with
  | .h => { s with vu.inqH := q }
  | .f => { s with vu.inqF := q }

/-- An entry joins the tail of its class queue. -/
def joinQueue (s : State) (c : Stream) (e : InletEntry) : State := setInletQueue s c (inletQueue s c ++ [e])

/-- An entry is put back at the head of its class queue. -/
def putBack (s : State) (c : Stream) (e : InletEntry) : State := setInletQueue s c (e :: inletQueue s c)

/-- The entries of a record leave the queues, and the entries behind close up (R110). -/
def leaveQueues (s : State) (t : Tag) : State :=
  { s with vu.inqH := s.vu.inqH.filter (·.tag != t), vu.inqF := s.vu.inqF.filter (·.tag != t) }

/-- The lowest-numbered IDLE vessel of a class (R111). -/
def idleVessel (s : State) (c : Stream) : Option VesselIx :=
  allVessels.find? fun v => s.vu.vessels[v].state == .idle && s.vu.vessels[v].streamClass == c

/-- The first entry of a class queue whose record has no vessel bound (R111) and carries no hold: a held record is never granted
a vessel (R90), and its entry keeps its place (assumption 33). -/
def grantable (s : State) (c : Stream) : Option InletEntry :=
  (inletQueue s c).find? fun e => (boundVessel s e.tag).isNone && !(lookup s e.tag).any isHeld

/-- The grant of one entry to one vessel (R112). -/
def grant (s : State) (c : Stream) (v : VesselIx) (e : InletEntry) : State :=
  let s := setInletQueue s c ((inletQueue s c).erase e)
  let s := updVessel s v fun x => { x with state := .baseline, bound := some (e.tag, e.node), baselineGross := none }
  requestSample s (.vessel v) s.vu.vessels[v].scaleSensor

/-- Grants are made until no IDLE vessel of the class or no grantable entry remains: at most one for each vessel. -/
def grantRounds : Nat → State → Stream → State
  | 0, s, _ => s
  | k + 1, s, c =>
    match idleVessel s c, grantable s c with
    | some v, some e => grantRounds k (grant s c v e) c
    | _, _ => s

/-- A grant attempt for a class goes on only while the line state is RUN (R111). -/
def grantAttempt (s : State) (c : Stream) : State := if s.line.state = .run then grantRounds 4 s c else s

/-- A grant in BASELINE is abandoned: the request is withdrawn, the vessel is IDLE and free for the next grant (R120). -/
def abandonGrant (s : State) (v : VesselIx) : State :=
  let s := withdrawSample s (.vessel v)
  let s := updVessel s v fun x => { x with state := .idle, bound := none }
  grantAttempt s s.vu.vessels[v].streamClass

/-- The valve is switched off and the vessel enters SETTLING; its settle channel runs settle_s from a reference (R115). -/
def closeValve (s : State) (v : VesselIx) (reference : Clock) : State :=
  let s := updVessel s v fun x => { x with valve := false, state := .settling }
  setSettle s v (chStart (reference + sec s.vu.vessels[v].settleS))

/-! ## HU: the hold set (10.1) -/

/-- A hold entry joins the record's hold set, stamped with the line clock (R177). -/
def putHold (s : State) (t : Tag) (h : HoldReason) (by_ : Nat) : State :=
  updRecord s t fun r => { r with holds := r.holds ++ [⟨h, by_, s.clock⟩] }

/-- HOLD RAISED of an entry that has joined the hold set (R178). `after` is the stage the record has after the event, where
the event goes on to change it. -/
def sendHoldRaised (s : State) (t : Tag) (h : HoldReason) (by_ : Nat) (after : Option Stage := none) : State :=
  match lookup s t with
  | none => s
  | some r => toSupervisor s (.holdRaised t h by_ (after.getD r.stage) (placeOf s t) (holdMarks r))

/-- A hold raised now would be new: the tag finds a record that does not carry the reason (R178). -/
def isNewHold (s : State) (t : Tag) (h : HoldReason) : Bool := (lookup s t).any fun r => !carries r h

/-- HU adds a hold entry and sends HOLD RAISED, unless the reason is already held (R178). -/
def addHold (s : State) (t : Tag) (h : HoldReason) (by_ : Nat) (after : Option Stage := none) : State :=
  if isNewHold s t h then sendHoldRaised (putHold s t h by_) t h by_ after else s

/-- What a new hold does to an inlet request that is queued or granted (R90): the entry leaves its queue, a grant in BASELINE
is abandoned, and the stage becomes CLAIMED. -/
def withdrawInlet (s : State) (t : Tag) : State :=
  match lookup s t with
  | none => s
  | some r =>
    if r.stage = .waitInlet then
      let s := setStage (leaveQueues s t) t .claimed
      match boundVessel s t with
      | some v => if s.vu.vessels[v].state = .baseline then abandonGrant s v else s
      | none => s
    else s

/-- A hold is raised on a record (R178), with its effect on a waiting inlet (R90). -/
def raiseHold (s : State) (t : Tag) (h : HoldReason) (by_ : Nat) (after : Option Stage := none) : State :=
  if isNewHold s t h then addHold (withdrawInlet s t) t h by_ after else s

/-- HU removes a hold entry, sending no notice. -/
def removeHold (s : State) (t : Tag) (h : HoldReason) : State :=
  updRecord s t fun r => { r with holds := r.holds.filter (·.reason != h) }

/-! ## EC: entry into DONE1 (R97, R105) -/

/-- STAGE DONE to the station that holds the record's claim. -/
def sendStageDone (s : State) (t : Tag) : State :=
  match lookup s t with
  | some r => toStation s r.station (.stageDone t r.verdict r.recovered)
  | none => s

/-- The record becomes DONE1, stamped with the line clock, and STAGE DONE is sent. -/
def enterDone1 (s : State) (t : Tag) : State :=
  sendStageDone (updRecord s t fun r => { r with stage := .done1, done1Stamp := some s.clock }) t

/-- A class N record enters DONE1 with verdict EMPTY (R39, R68, R101). -/
def enterDone1Empty (s : State) (t : Tag) : State :=
  enterDone1 (updRecord s t fun r => { r with verdict := .empty }) t

/-- A progress entry returns to NONE, and what it held is discarded (R88). -/
def clearProgress (s : State) (n : Node) : State := updProgress s n fun _ => .initial

end Sys2Proof.Machine
end

