-- ==== Sys2Proof/Machine/Zones.lean ====
section
/-!
DEFINITION. The zone unit: gates and routing (2.2, 2.3), admission through FEED_GATE (R45), the movements that requests ask
for, and retirement (R22).
-/

namespace Sys2Proof.Machine

/-! ## Gates -/

/-- ZU releases a gate for a record (R31): release on, passage channel started with passage_timeout, the capture slot takes
its reference (R86), one place reserved, the record in passage. -/
def releaseGate (s : State) (g : Gate) (t : Tag) : State :=
  let s := setGate s g ⟨.released, true, some t⟩
  let s := setPassage s g (chStart (s.clock + sec s.cfg.passageTimeout))
  { s with
    tu.slots := if s.tu.slots.get g = .broken then s.tu.slots.set g .standing else s.tu.slots }

/-- A gate returns to IDLE: release off, passage channel stopped, the place and the in-passage mark given up (R33, R34,
R37). -/
def gateToIdle (s : State) (g : Gate) : State := setPassage (setGate s g .initial) g chStopped

/-- At an emergency stop ZU abandons every passage in flight. A BLOCKED gate stays BLOCKED (R37). -/
def abandonPassages (s : State) : State :=
  allGates.foldl (fun s g => if (s.zu.gates.get g).state = .released then gateToIdle s g else s) s

/-! ## Routing -/

/-- A lane is a candidate for a class (R30). -/
def laneCandidate (s : State) (c : Class) (l : Lane) : Bool :=
  ratingCovers (s.cfg.ratings.get l) c
    && (c != .u || allNodes.any fun n => sniffsOn s.stations[n] l)
    && hasFreePlace s (.lane l)
    && (s.zu.gates.get (.lane l)).state == .idle

/-- Of two lanes the one with fewer records, the first when they have equally many (R30). -/
def fewerRecords (s : State) (x y : Lane) : Lane :=
  if (s.zu.lanes.get y).length < (s.zu.lanes.get x).length then y else x

/-- The chosen lane: among the candidates, the one with the fewest records, the earliest of equals (R30). -/
def chosenLane (s : State) (c : Class) : Option Lane :=
  match allLanes.filter (laneCandidate s c) with
  | [] => none
  | l :: ls => some (ls.foldl (fewerRecords s) l)

/-- No lane gate is RELEASED (R29). -/
def noLaneReleased (s : State) : Bool := allLanes.all fun l => (s.zu.gates.get (.lane l)).state != .released

/-- The record a routing attempt may route: the line is RUN, no lane gate is RELEASED, and the INTAKE head has no holds
(R29). -/
def routable (s : State) : Option Record :=
  if s.line.state = .run ∧ noLaneReleased s = true then
    match s.zu.intake with
    | t :: _ => (lookup s t).filter fun r => !isHeld r
    | [] => none
  else none

/-- A routing attempt (R29 to R31). -/
def routingAttempt (s : State) : State :=
  match routable s with
  | none => s
  | some r =>
    match chosenLane s r.cls with
    | some l => releaseGate s (.lane l) r.tag
    | none => s

/-! ## Admission (R45) -/

/-- A passage event that FEED_GATE's expired release has left is still to be taken, and has to find the gate IDLE (R47). -/
def overdueWaits (s : State) : Bool := s.tu.passages.any fun e => decide (e.gate = .feed) && e.overdue

/-- ZU takes CS's request for the admission of a BUFFER record, or declines it and changes nothing (R45). It declines while an
overdue passage event waits (assumption 37). -/
def admitRecord (s : State) (t : Tag) : State :=
  if s.line.state = .run ∧ s.zu.gates.feed.state = .idle ∧ hasFreePlace s .chamber = true ∧ s.zu.buffer.contains t = true
      ∧ isCandidate s t = true ∧ overdueWaits s = false then
    releaseGate s .feed t
  else s

/-! ## Retirement (R22, R23) -/

/-- The DISCHARGE REPORT of a record. -/
def dischargeReport (s : State) (route : Route) (r : Record) : NoticeBody :=
  .discharge r.tag route r.enrolledClass r.cls r.foamClass (r.declaredCharge.getD 0) r.transfers r.recovered r.verdict
    (r.batch.getD 0) r.foamShare (holdMarks r) (ageSeconds s.clock r.enrolStamp 65535)

/-- A record is retired: its report is queued or discarded, it leaves its list, its slot is freed. -/
def retireRecord (s : State) (route : Route) (t : Tag) : State :=
  match lookup s t with
  | none => s
  | some r =>
    let s := toSupervisor s (dischargeReport s route r)
    let s := takeOut s (match route with | .chamber => .chamber | .exit => .exit) t
    { s with records := s.records.filter (·.tag != t) }

/-! ## Claims (R39, R40) -/

/-- The claim of a record leaves a station's position, and the record's station field is removed. -/
def leavePosition (s : State) (n : Node) (t : Tag) : State :=
  updRecord (takeOut s (.station n) t) t fun r => { r with station := none }

/-- ZU moves a claimed record from its lane to the station's position (R39). -/
def takeClaim (s : State) (n : Node) (l : Lane) (r : Record) : State :=
  let s := putTail (takeOut s (.lane l) r.tag) (.station n) r.tag
  let s := updRecord s r.tag fun x => { x with station := some n }
  let s := if r.cls = .n then enterDone1Empty s r.tag else setStage s r.tag .claimed
  routingAttempt s

/-- ZU returns a claimed record to the head of its station's lane at stage ROUTED (R40). -/
def returnClaim (s : State) (n : Node) (l : Lane) (t : Tag) : State :=
  setStage (putHead (leavePosition s n t) l t) t .routed

end Sys2Proof.Machine
end

