-- ==== Sys2Proof/Machine/Chamber.lean ====
section
/-!
DEFINITION. The chamber sequencer (chapter 09): phase entries, outputs and interlock, batch formation, the judging of
samples and door changes, the foam booking, abort and the line states.
-/

namespace Sys2Proof.Machine

/-! ## Outputs (R156, R157) -/

/-- The duty that a phase entry stages: 256 in PAUSED, else duty_base limited to duty_min to 256 (R156). -/
def stagedAtEntry (r : Recipe) (p : Phase) : Nat := if p = .paused then 256 else entryDuty r

/-- A phase entry stages a duty: SHREDDING and PAUSED always (R166, R167), another phase where its pattern gives
PWM (R156, assumption 28). -/
def entryStages (p : Phase) (d : Drive) : Bool := p == .shredding || p == .paused || d == .pwm

/-- CS stages the duty of the entry into the phase, where the entry stages one. -/
def stageEntry (s : State) : State :=
  if entryStages s.cs.phase (patternOf s.cs.working s.cs.phase).n2Prop then
    stageDuty s (stagedAtEntry s.cs.working s.cs.phase)
  else s

/-- N2_PROP at a phase entry: a level stops the generator and is driven; PWM starts the generator if it is STOPPED (R156,
R81), at the entry into ABORTED too (assumption 38). -/
def driveN2 (s : State) (d : Drive) : State :=
  match d with
  | .off => { s with tu.pwm := pwmStop s.tu.pwm, cs.outputs.n2Prop := false }
  | .on => { s with tu.pwm := pwmStop s.tu.pwm, cs.outputs.n2Prop := true }
  | .pwm =>
    match s.tu.pwm.current with
    | some _ => s
    | none =>
      let p := pwmBegin s.tu.pwm s.clock s.cs.working.pwmPeriod
      { s with tu.pwm := p, cs.outputs.n2Prop := pwmLevel p }

/-- SHRED_DRIVE follows the pattern of the phase under the interlock (R157). -/
def judgeDrive (s : State) : State :=
  { s with cs.outputs.shredDrive := (patternOf s.cs.working s.cs.phase).shredDrive && shredInterlock s }

/-- Every output but N2_PROP and SHRED_DRIVE takes the pattern's value. -/
def drivePlain (s : State) (p : PatternRow) : State :=
  { s with
    cs.outputs.n2Full := p.n2Full
    cs.outputs.vent := p.vent
    cs.outputs.circFan := p.circFan
    cs.outputs.trapCool := p.trapCool
    cs.outputs.doorLock := p.doorLock
    cs.outputs.discharge := p.discharge
    cs.outputs.drain := p.drain
    cs.outputs.beacon := p.beacon }

/-- The outputs are driven to the pattern of the phase, after the duty of the entry is staged (R156). -/
def drivePattern (s : State) : State :=
  let p := patternOf s.cs.working s.cs.phase
  judgeDrive (driveN2 (drivePlain (stageEntry s) p) p.n2Prop)

/-- The batch number as reported: 0 when the batch list is empty (R155, R176). -/
def batchNumber (s : State) : Nat := if s.cs.batchList.isEmpty then 0 else s.cs.batchCounter

/-- The entry into a phase: its pattern is driven and PHASE is sent (R155). -/
def enterPhase (s : State) (p : Phase) (cause : PhaseCause) : State :=
  let before := s.cs.phase
  let s := drivePattern { s with cs.phase := p }
  toSupervisor s (.phase before p cause (batchNumber s) s.cs.batchList.length)

/-- CS has TU start the phase channel with a duration in seconds. -/
def startPhase (s : State) (seconds : Nat) : State :=
  { s with tu.phase := chStart (s.clock + sec seconds) }

/-- CS has TU stop the phase, pause and load channels. -/
def stopChamberChannels (s : State) : State :=
  { s with tu.phase := chStopped, tu.pause := chStopped, tu.load := chStopped }

/-- TU freezes the running chamber channels at an accepted emergency stop (R78). -/
def freezeChamberChannels (s : State) : State :=
  { s with
    tu.phase := chFreeze s.clock s.tu.phase
    tu.pause := chFreeze s.clock s.tu.pause
    tu.load := chFreeze s.clock s.tu.load }

/-! ## Abort (R171) and the emergency stop (R174) -/

/-- A pending condensate request is withdrawn; a PENDING baseline returns to NONE. -/
def withdrawCondensate (s : State) : State :=
  let s := withdrawSample s .condensate
  { s with cs.baseline := if s.cs.baseline = .pending then .none else s.cs.baseline }

/-- The entry into ABORTED (R171). The generator is stopped where the ABORTED pattern does not give PWM; under a recipe whose
ABORTED pattern gives PWM it runs, as R156 says (assumption 38). -/
def enterAborted (s : State) (cause : PhaseCause) : State :=
  let s := enterPhase (withdrawCondensate (stopChamberChannels s)) .aborted cause
  s.cs.batchList.foldl (fun s t => raiseHold s t .chamberAbort 0) s

/-- CS when the line state becomes STOPPED (R174). -/
def chamberStopped (s : State) : State :=
  if s.cs.phase = .idle ∨ s.cs.phase = .safe then s else enterPhase (withdrawCondensate s) .safe .emergencyStop

/-! ## Sealing, purging, shredding (R164 to R167) -/

/-- The entry into PURGING (R165). -/
def enterPurging (s : State) (cause : PhaseCause) : State :=
  let s := startPhase { s with cs.purgeMinDone := false } s.cs.working.purgeMin
  enterPhase s .purging cause

/-- The entry into SEALING; with the door already closed CS goes on to PURGING in the same event (R164). -/
def enterSealing (s : State) (cause : PhaseCause) : State :=
  let s := enterPhase (startPhase s s.cs.working.sealTimeout) .sealing cause
  if doorClosed s then enterPurging s .doorClosed else s

/-- The abort conditions of SHREDDING and PAUSED, in their order (R166, R167). -/
def abortCause (s : State) : Option PhaseCause :=
  if lelAtLeast s s.cs.working.lelAbort then some .lelAbort
  else if o2AtLeast s s.cs.working.o2Abort then some .o2Abort
  else none

/-- The pause conditions of SHREDDING, in their order (R166). -/
def pauseCause (s : State) : Option PhaseCause :=
  if lelAtLeast s s.cs.working.lelPause then some .lelPause
  else if o2Above s s.cs.working.o2ShredMax then some .o2High
  else if gasFailed s then some .gasFault
  else if !doorClosed s then some .doorOpened
  else none

/-- The entry into PAUSED (R167). -/
def enterPaused (s : State) (cause : PhaseCause) : State :=
  let s := { s with
    tu.phase := chFreeze s.clock s.tu.phase
    tu.pause := chStart (s.clock + sec s.cs.working.pauseMax) }
  enterPhase s .paused cause

/-- AA computes and CS stages the nitrogen duty of the effective LEL (R137). -/
def stageNitrogen (s : State) : State :=
  match effectiveLel s with
  | some v => stageDuty s (nitrogenDuty s.cs.working v)
  | none => s

/-- CS judges the chamber in SHREDDING (R166). `lelSample` is set when the event is a good sample of an LEL sensor. -/
def judgeShredding (s : State) (lelSample : Bool) : State :=
  match abortCause s with
  | some c => enterAborted s c
  | none =>
    match pauseCause s with
    | some c => enterPaused s c
    | none => if lelSample then stageNitrogen s else s

/-- The entry into SHREDDING from PURGING, and the judging at it (R166). -/
def enterShredding (s : State) : State :=
  let s := startPhase { s with cs.shredDone := false } s.cs.working.shredTime
  judgeShredding (enterPhase s .shredding .purgeDone) false

/-- The purge is done: purge_min_done set, gas sensors not failed, latest O2 at or below purge_target (R165). -/
def purgeDone (s : State) : Bool := s.cs.purgeMinDone && o2AtMost s s.cs.working.purgeTarget

/-! ## Condensing (R168, R169) -/

/-- The condensing time runs only while the trap is cold (R168). -/
def judgeTrap (s : State) : State :=
  { s with tu.phase := if trapCold s then chResume s.clock s.tu.phase else chFreeze s.clock s.tu.phase }

/-- The baseline request, where the baseline is NONE. -/
def requestBaseline (s : State) : State :=
  if s.cs.baseline = .none then
    requestSample { s with cs.baseline := .pending } .condensate s.cs.working.condensateSensor
  else s

/-- The entry into CONDENSING (R168). -/
def enterCondensing (s : State) (cause : PhaseCause) : State :=
  let s := { s with
    cs.step := .cooling
    tu.phase := chStartFrozen (s.cs.working.condenseTime * 1000) }
  let s := enterPhase s .condensing cause
  judgeTrap (requestBaseline s)

/-- The step WEIGH: a PENDING baseline is withdrawn and FAILED, and the final request is made (R169). -/
def enterWeigh (s : State) : State :=
  let s := { s with cs.step := .weigh }
  let s :=
    if s.cs.baseline = .pending then { withdrawSample s .condensate with cs.baseline := .failed } else s
  requestSample s .condensate s.cs.working.condensateSensor

/-- CS judges the chamber in PAUSED: abort first, then resumption (R167). -/
def judgePaused (s : State) (lelSample : Bool) : State :=
  match abortCause s with
  | some c => enterAborted s c
  | none =>
    if lelAtMost s s.cs.working.lelResume && o2AtMost s s.cs.working.o2ShredMax && !gasFailed s && doorClosed s then
      let s := { s with tu.pause := chStopped }
      if s.cs.shredDone then enterCondensing s .resume
      else
        let s := { s with tu.phase := chResume s.clock s.tu.phase }
        judgeShredding (enterPhase s .shredding .resume) lelSample
    else s

/-- The entry into UNLOADING (R170). -/
def enterUnloading (s : State) (cause : PhaseCause) : State :=
  enterPhase (startPhase s s.cs.working.unloadTime) .unloading cause

/-- The foam weights of the batch, in batch list order (R135). -/
def batchWeights (s : State) : List Nat :=
  s.cs.batchList.map fun t => ((lookup s t).map (·.foamWeight)).getD 0

/-- Every batch record's foam_share is written in batch list order. -/
def writeShares (s : State) (shares : List Nat) : State :=
  (s.cs.batchList.zip shares).foldl (fun s p => updRecord s p.1 fun r => { r with foamShare := some p.2 }) s

/-- Every batch record's foam_share is removed. -/
def clearShares (s : State) : State :=
  s.cs.batchList.foldl (fun s t => updRecord s t fun r => { r with foamShare := none }) s

/-- The foam booking: with a usable final gross and a PRESENT baseline, T and the shares are kept; otherwise all stay absent
(R169, assumption 27). CS then enters UNLOADING. -/
def foamBooking (s : State) (final : Option Int) : State :=
  let s :=
    match final, s.cs.baseline with
    | some g, .present b =>
      let t := condensateTotal b g
      writeShares { s with cs.total := some t } (apportion t (batchWeights s))
    | _, _ => clearShares { s with cs.total := none }
  enterUnloading s .foamBooked

/-- CS takes the answer to its condensate request: a converted gross, or none when the sample is unusable (R169, R134). -/
def condensateAnswer (s : State) (gross : Option Int) : State :=
  if s.cs.phase = .condensing then
    if s.cs.baseline = .pending then
      { s with cs.baseline := match gross with | some g => .present g | none => .failed }
    else if s.cs.step = .weigh then foamBooking s gross
    else s
  else s

/-! ## Samples and door changes -/

/-- A sensor index named as an LEL sensor by the working recipe. -/
def isLelSensor (s : State) (i : SensorIx) : Bool :=
  s.cs.working.lel1Sensor == i || s.cs.working.lel2Sensor == some i

/-- CS takes what SN hands it of an entry: a good poll, or a state change (R151). `good` is set for a good poll. In CONDENSING
the LEL abort is judged at the O2 entry's events too: its recovery lets the LEL be judged again (R168, assumption 17). A good
sample of a named LEL entry computes a duty only where the entry is of kind LEL (R137, assumption 42). -/
def chamberSensor (s : State) (i : SensorIx) (good : Bool) : State :=
  let lel := isLelSensor s i
  let o2 := s.cs.working.o2Sensor == i
  let lelSample := good && lel && s.sn.sensors[i].kind == .lel && s.sn.sensors[i].state != .fault
  judgeDrive <|
    match s.cs.phase with
    | .purging =>
      if lel && lelAtLeast s s.cs.working.lelAbort then enterAborted s .lelAbort
      else if o2 && good && purgeDone s then enterShredding s
      else s
    | .shredding => if lel || o2 then judgeShredding s lelSample else s
    | .paused => if lel || o2 then judgePaused s lelSample else s
    | .condensing =>
      if (lel || o2) && lelAtLeast s s.cs.working.lelAbort then enterAborted s .lelAbort
      else if s.cs.working.trapSensor == i && s.cs.step == .cooling then judgeTrap s
      else s
    | _ => s

/-- CS takes an accepted door change (R84), with the filtered level already changed. -/
def chamberDoor (s : State) : State :=
  judgeDrive <|
    match s.cs.phase with
    | .sealing => if doorClosed s then enterPurging s .doorClosed else s
    | .purging => if doorClosed s then s else enterSealing s .doorOpened
    | .shredding => judgeShredding s false
    | .paused => judgePaused s false
    | .condensing => if doorClosed s then s else enterAborted s .doorOpened
    | _ => s

/-! ## Loading (R160 to R163) -/

/-- Loading closes (R163). -/
def closeLoading (s : State) (cause : PhaseCause) : State := enterSealing { s with tu.load := chStopped } cause

/-- The BUFFER candidates, head first. -/
def candidates (s : State) : List Tag := s.zu.buffer.filter (isCandidate s)

/-- The first candidate is barred, its skip_count is 3, and the batch list is not empty (R161). -/
def skipRuleApplies (s : State) : Bool :=
  !s.cs.batchList.isEmpty &&
    (candidates s).head?.any fun t => isBarred s t && (lookup s t).any fun r => r.skipCount == 3

/-- A selection attempt (R161). -/
def selectionAttempt (s : State) : State :=
  if s.cs.phase = .loading ∧ s.line.state = .run ∧ s.zu.gates.feed.state = .idle then
    if skipRuleApplies s then closeLoading s .skipRule
    else
      match (candidates s).find? fun t => !isBarred s t with
      | some t => admitRecord s t
      | none => if s.cs.loadExpired && !s.cs.batchList.isEmpty then closeLoading s .loadWait else s
  else s

/-- The batch number after a given one: from 65,535 it goes on at 1 (R154). -/
def nextBatch (k : Nat) : Nat := if k = 65535 then 1 else k + 1

/-- CS takes an admission (R162). `ahead` are the records that stood before the admitted one in BUFFER. -/
def takeAdmission (s : State) (ahead : List Tag) (t : Tag) : State :=
  let passed := ahead.filter fun x => isCandidate s x && isBarred s x
  let s :=
    if s.cs.batchList.isEmpty then
      { s with
        cs.batchCounter := nextBatch s.cs.batchCounter
        tu.load := chStart (s.clock + sec s.cs.working.loadWait) }
    else s
  let s := passed.foldl (fun s x => updRecord s x fun r => { r with skipCount := min (r.skipCount + 1) 3 }) s
  let s := updRecord s t fun r => { r with stage := .batched, batch := some s.cs.batchCounter }
  let s := { s with
    cs.batchList := s.cs.batchList ++ [t]
    cs.ffCount := s.cs.ffCount + ffCountOf s [t] }
  if s.cs.working.batchSize ≤ s.cs.batchList.length then closeLoading s .batchFull else selectionAttempt s

/-- The entry into LOADING from IDLE, taken only with an empty CHAMBER: a committed staged recipe is adopted (R159, R160). -/
def enterLoading (s : State) : State :=
  if s.zu.chamber.isEmpty then
    let s := if s.cs.commitMark then { s with cs.working := s.cs.staged, cs.commitMark := false } else s
    let s := enterPhase { s with cs.loadExpired := false, cs.ffCount := 0 } .loading .lineRun
    selectionAttempt s
  else s

/-- CS in IDLE enters LOADING whenever the line state is RUN (R160). -/
def idleGoesOn (s : State) : State := if s.line.state = .run then enterLoading s else s

/-- The records adopted into CHAMBER are formed into a batch, which is aborted (R175). -/
def adoptBatch (s : State) : State :=
  let k := nextBatch s.cs.batchCounter
  let s := s.zu.chamber.foldl (fun s t => updRecord s t fun r => { r with stage := .batched, batch := some k }) s
  let s := { s with cs.batchCounter := k, cs.batchList := s.zu.chamber, cs.ffCount := ffCountOf s s.zu.chamber }
  enterAborted s .adopted

/-- CS when the line state becomes RUN (R160, R174, R175). -/
def chamberRun (s : State) : State :=
  match s.cs.phase with
  | .safe =>
    if s.cs.batchList.isEmpty then idleGoesOn (enterPhase (stopChamberChannels s) .idle .lineResume)
    else enterAborted s .lineResume
  | .idle => if s.zu.chamber.isEmpty then idleGoesOn s else adoptBatch s
  | _ => s

/-- The end of UNLOADING: the batch is retired head first, and CS returns through IDLE (R170). -/
def endUnloading (s : State) : State :=
  let s := s.cs.batchList.foldl (fun s t => retireRecord s .chamber t) s
  let s := { s with
    cs.batchList := []
    cs.ffCount := 0
    cs.step := .none
    cs.baseline := .none
    cs.total := none }
  idleGoesOn (enterPhase s .idle .unloadTime)

/-! ## Expiries -/

/-- CS takes the expiry of the phase channel, carrying a deadline (R155 and the rule of each phase). -/
def phaseExpired (s : State) (deadline : Clock) : State :=
  match s.cs.phase with
  | .sealing => enterAborted s .sealTimeout
  | .purging =>
    if s.cs.purgeMinDone then enterAborted s .purgeMax
    else
      let s := { s with
        cs.purgeMinDone := true
        tu.phase := chStart (deadline - sec s.cs.working.purgeMin + sec s.cs.working.purgeMax) }
      if purgeDone s then enterShredding s else s
  | .shredding => enterCondensing s .shredTime
  | .paused => { s with cs.shredDone := true }
  | .condensing =>
    match s.cs.step with
    | .cooling =>
      { s with
        cs.step := .settle
        tu.phase := chStart (deadline + sec s.cs.working.condenseSettle) }
    | .settle => enterWeigh s
    | _ => s
  | .unloading => endUnloading s
  | _ => s

/-- CS takes the expiry of the pause channel (R167). -/
def pauseExpired (s : State) : State :=
  match s.cs.phase with
  | .paused => enterAborted s .pauseMax
  | _ => s

/-- CS takes the expiry of the load channel: load_expired is set, and a selection attempt is made (R161, R162, assumption
18). -/
def loadExpired (s : State) : State := selectionAttempt { s with cs.loadExpired := true }

/-! ## Chamber Restart and Chamber Clear (R172, R173) -/

/-- CHAMBER_ABORT leaves every record of the batch list, with no notice. -/
def liftAbort (s : State) : State := s.cs.batchList.foldl (fun s t => removeHold s t .chamberAbort) s

/-- Chamber Restart takes effect (R172). -/
def restartChamber (s : State) : State := enterPurging (liftAbort s) .chamberRestart

/-- Chamber Clear takes effect (R173). -/
def clearChamber (s : State) : State :=
  let s := clearShares (liftAbort s)
  enterUnloading { s with cs.total := none, cs.baseline := .none } .chamberClear

end Sys2Proof.Machine
end

