-- ==== Sys2Proof/Machine/Transfers.lean ====
section
/-!
DEFINITION. Evacuation control and the vessel unit (chapters 05 and 06): the valve opening and its end, the vacuum hold, the
baseline and final samples with their bookings, the way to DONE1, and the station-loss effects (R60).
-/

namespace Sys2Proof.Machine

/-! ## DONE1 (R97, R100) -/

/-- A completed booking leads to DONE1: the record is in VACUUM_HOLD with its test passed, or its LEAK was accepted. -/
def bookingBringsDone1 (s : State) (n : Node) (t : Tag) : Bool :=
  let p := s.progress[n]
  p.tag == some t &&
    (p.state == .acceptWait
      || (p.state == .passWait && (lookup s t).any fun r => r.stage == .vacuumHold))

/-- EC sets the progress entry to NONE and the record to DONE1 (R97). -/
def finishStage1 (s : State) (n : Node) (t : Tag) : State := enterDone1 (clearProgress s n) t

/-- The LEAK of a record is accepted (R100). -/
def acceptLeak (s : State) (t : Tag) : State :=
  match lookup s t with
  | none => s
  | some r =>
    if r.stage = .vacuumHold ∨ r.stage = .claimed then
      match boundVessel s t, r.station with
      | some _, some n => updProgress s n fun _ => { Progress.initial with state := .acceptWait, tag := some t }
      | some _, none => s
      | none, some n => finishStage1 s n t
      | none, none => enterDone1 s t
    else s

/-! ## Baseline (R114, R91) -/

/-- EC takes the valve opening: EVACUATING, the dwell, GRANT (R91). -/
def openingAtEC (s : State) (v : VesselIx) (n : Node) (t : Tag) : State :=
  match lookup s t with
  | none => s
  | some r =>
    let dwell := effectiveDwell s r
    let s := setStage s t .evacuating
    let s := updProgress s n fun _ => { Progress.initial with state := .dwell, tag := some t }
    let s := setStationChannel s n (scStartDeadline (s.clock + sec dwell))
    placeNotice s (nodeNumber n) (.grant t v s.vu.vessels[v].streamClass dwell)

/-- VESSEL is sent for a vessel that has entered FULL or FAULT (R119). -/
def sendVessel (s : State) (v : VesselIx) (cause : VesselCause) (t : Tag) : State :=
  let x := s.vu.vessels[v]
  toSupervisor s (.vessel v x.streamClass x.state cause t x.netG (fillLimit x) x.bookedTotalG)

/-- A vessel that found no use for its baseline sample leaves service, and its entry goes back to the head of its queue, which
another IDLE vessel may answer (R114). -/
def baselineEnds (s : State) (v : VesselIx) (cause : VesselCause) : State :=
  let x := s.vu.vessels[v]
  match x.bound with
  | none => s
  | some (t, n) =>
    let s := updVessel s v fun y =>
      match cause with
      | .full => { y with state := .full, bound := none }
      | _ => { y with state := .fault, bound := none, faultCause := some .baselineUnusable }
    let s := putBack s x.streamClass ⟨n, t⟩
    grantAttempt (sendVessel s v cause t) x.streamClass

/-- VU takes the answer to a baseline request: a gross, or none when the sample is unusable (R114). -/
def baselineAnswer (s : State) (v : VesselIx) (gross : Option Int) : State :=
  match gross with
  | none => baselineEnds s v .baselineUnusable
  | some g =>
    let s := updVessel s v fun x => { x with netG := some (g - x.tareG) }
    if netIsFull s.vu.vessels[v] then baselineEnds s v .full
    else
      match s.vu.vessels[v].bound with
      | none => s
      | some (t, n) =>
        let s := updVessel s v fun x => { x with baselineGross := some g, valve := true, state := .filling }
        openingAtEC s v n t

/-! ## Final (R117, R118) -/

/-- The end of a booking: unbound, the vessel goes to its next state (R117, R118). -/
def unbind (s : State) (v : VesselIx) (next : VesselState) (cause : Option FaultCause) : State :=
  updVessel s v fun x => { x with bound := none, baselineGross := none, state := next, faultCause := cause }

/-- The booking is handed to EC, then a grant attempt is made (R117, steps 4 and 5). -/
def afterBooking (s : State) (v : VesselIx) (n : Node) (t : Tag) : State :=
  let s := if bookingBringsDone1 s n t then finishStage1 s n t else s
  grantAttempt s s.vu.vessels[v].streamClass

/-- The stage that HOLD RAISED reports for a hold a booking raises (R178, assumption 16). -/
def stageAfterBooking (s : State) (n : Node) (t : Tag) : Option Stage :=
  if bookingBringsDone1 s n t then some .done1 else none

/-- The measured booking of a final gross (R117, R127 to R131, R133). -/
def measuredBooking (s : State) (v : VesselIx) (t : Tag) (n : Node) (gross : Int) : State :=
  let delta := gross - (s.vu.vessels[v].baselineGross.getD gross)
  let after := stageAfterBooking s n t
  let s := updVessel s v fun x =>
    { x with netG := some (gross - x.tareG), bookedTotalG := addBooked x.bookedTotalG delta }
  let s := updRecord s t (bookMeasured s.cfg v delta)
  let s := if delta < -(s.cfg.negTolerance : Int) then raiseHold s t .scaleFault 0 after else s
  let s := if (lookup s t).any (fun r => r.verdict == .over) then raiseHold s t .overYield 0 after else s
  let full := netIsFull s.vu.vessels[v]
  let s := unbind s v (if full then .full else .idle) none
  let s := if full then sendVessel s v .full t else s
  afterBooking s v n t

/-- The UNMEASURED booking (R118, R132). -/
def unmeasuredBooking (s : State) (v : VesselIx) (t : Tag) (n : Node) : State :=
  let after := stageAfterBooking s n t
  let s := updRecord s t (bookUnmeasured v)
  let s := raiseHold s t .scaleFault 0 after
  let s := unbind s v .fault (some .finalUnusable)
  afterBooking (sendVessel s v .finalUnusable t) v n t

/-- VU takes the answer to a final request: a gross, or none when the sample is unusable (R117, R118). -/
def finalAnswer (s : State) (v : VesselIx) (gross : Option Int) : State :=
  match s.vu.vessels[v].bound, gross with
  | none, _ => s
  | some (t, n), some g => measuredBooking s v t n g
  | some (t, n), none => unmeasuredBooking s v t n

/-- VU takes the answer to a request of a vessel. -/
def vesselAnswer (s : State) (v : VesselIx) (gross : Option Int) : State :=
  match s.vu.vessels[v].state with
  | .baseline => baselineAnswer s v gross
  | .final => finalAnswer s v gross
  | _ => s

/-- A requester takes the answer to its request (R113, R134). -/
def takeAnswer (s : State) (r : Requester) (gross : Option Int) : State :=
  match r with
  | .vessel v => vesselAnswer s v gross
  | .condensate => condensateAnswer s gross

/-- VU takes the expiry of a settle channel: FINAL, and the final request (R116). -/
def settleExpired (s : State) (v : VesselIx) : State :=
  if s.vu.vessels[v].state = .settling then
    requestSample (updVessel s v fun x => { x with state := .final }) (.vessel v) s.vu.vessels[v].scaleSensor
  else s

/-! ## The dwell and the hold window (R92 to R96) -/

/-- EC reads the test in force (R92, R103). -/
def windowInForce (c : ConfigTables) : HoldWindow := ⟨c.holdDelay, c.holdEnd, c.riseLimit⟩

/-- EC starts a hold window from a reference (R92, R103). -/
def startWindow (s : State) (n : Node) (t : Tag) (dwellEnd : Option Clock) (reference : Clock) : State :=
  let s := setStationChannel s n (scStartWindow reference s.cfg.holdDelay s.cfg.holdEnd)
  updProgress s n fun _ =>
    { Progress.initial with
      state := .holdWait
      tag := some t
      dwellEnd := dwellEnd
      window := some (windowInForce s.cfg) }

/-- EC takes the expiry of a dwell, with the deadline it carries (R92). -/
def dwellExpired (s : State) (n : Node) (dwellEnd : Clock) : State :=
  match s.progress[n].state, s.progress[n].tag with
  | .dwell, some t =>
    let v := boundVessel s t
    let s := match v with | some v => closeValve s v dwellEnd | none => s
    let s := setStage s t .vacuumHold
    let s := placeNotice s (nodeNumber n) (.evacEnd t v s.cfg.holdDelay s.cfg.holdEnd)
    startWindow s n t (some dwellEnd) dwellEnd
  | _, _ => s

/-- EC takes a window open (R93). -/
def windowOpened (s : State) (n : Node) : State :=
  if s.progress[n].state = .holdWait then updProgress s n fun p => { p with state := .holdOpen } else s

/-- The rise of a test: last minus baseline, 0 with no report (R96, R105). -/
def riseOf (p : Progress) : Int :=
  match p.baseline, p.last with
  | some (b, _), some (l, _) => (l : Int) - b
  | _, _ => 0

/-- The test passes: at least one report, and the rise within the limit held in the entry (R96). -/
def testPasses (p : Progress) : Bool :=
  decide (0 < p.reports) && p.window.any fun w => decide (riseOf p ≤ (w.riseLimit : Int))

/-- HOLD RESULT (R105). -/
def sendHoldResult (s : State) (n : Node) (t : Tag) (p : Progress) : State :=
  placeNotice s (nodeNumber n)
    (.holdResult t (testPasses p) ((p.baseline.map (·.1)).getD 0) ((p.last.map (·.1)).getD 0) (riseOf p) p.reports)

/-- EC takes a window close and judges the test (R96, R97). -/
def windowClosed (s : State) (n : Node) : State :=
  let p := s.progress[n]
  match p.state, p.tag with
  | .holdOpen, some t =>
    let s := sendHoldResult s n t p
    if testPasses p then
      if (boundVessel s t).isSome then updProgress s n fun p => { p with state := .passWait }
      else finishStage1 s n t
    else raiseHold (clearProgress s n) t .leak 0
  | _, _ => s

/-- A report taken in HOLD_OPEN counts towards the test (R95). -/
def countReport (p : Progress) (pa : Nat) (now : Clock) : Progress :=
  if p.state = .holdOpen then
    { p with
      baseline := some (p.baseline.getD (pa, now))
      last := some (pa, now)
      reports := min (p.reports + 1) 65535 }
  else p

/-! ## Station loss (R60, R104, R120) -/

/-- EC stops the station channel and discards the progress entry (R104). -/
def discardProgress (s : State) (n : Node) : State := clearProgress (setStationChannel s n scStopped) n

/-- What the loss undoes of a claimed record's stage-1 work (R60). -/
def unwindClaim (s : State) (n : Node) (r : Record) : State :=
  match r.stage with
  | .claimed => discardProgress s n
  | .waitInlet => discardProgress (withdrawInlet s r.tag) n
  | .evacuating =>
    let s := match boundVessel s r.tag with
      | some v => if s.vu.vessels[v].state = .filling then closeValve s v s.clock else s
      | none => s
    setStage (discardProgress s n) r.tag .claimed
  | .vacuumHold => setStage (discardProgress s n) r.tag .claimed
  | _ => s

/-- The station-loss effects on the record a node claims, if any (R60). -/
def stationLoss (s : State) (n : Node) (raisedBy : Nat) : State :=
  match s.stations[n].claim.bind (lookup s) with
  | none => s
  | some r => addHold (unwindClaim s n r) r.tag .stationLost raisedBy

/-! ## Emergency stop and resume (R102, R103, R121) -/

/-- EC at the stop, for one station (R102). -/
def stopProgress (s : State) (n : Node) : State :=
  let p := s.progress[n]
  match p.state with
  | .dwell =>
    let s := match p.tag with | some t => setStage s t .waitInlet | none => s
    discardProgress s n
  | .holdWait | .holdOpen =>
    updProgress (setStationChannel s n scStopped) n fun p =>
      { p with state := .holdStopped, baseline := none, last := none, reports := 0 }
  | _ => s

/-- VU at the stop, for one vessel (R121). -/
def stopVessel (s : State) (v : VesselIx) : State :=
  let x := s.vu.vessels[v]
  match x.state, x.bound with
  | .baseline, some (t, n) =>
    let s := withdrawSample s (.vessel v)
    let s := updVessel s v fun y => { y with state := .idle, bound := none }
    putBack s x.streamClass ⟨n, t⟩
  | .filling, some (t, n) => putBack (closeValve s v s.clock) x.streamClass ⟨n, t⟩
  | _, _ => s

/-- EC and VU at the stop. The vessels are taken from the highest index down, so that the lowest stands at the head of its
queue (R121). -/
def transfersStopped (s : State) : State :=
  let s := allNodes.foldl stopProgress s
  allVessels.reverse.foldl stopVessel s

/-- EC restarts every HOLD_STOPPED window from the line clock (R103). -/
def resumeWindow (s : State) (n : Node) : State :=
  match s.progress[n].state, s.progress[n].tag with
  | .holdStopped, some t => startWindow s n t s.progress[n].dwellEnd s.clock
  | _, _ => s

/-- The grant attempts of both classes. -/
def grantBoth (s : State) : State := grantAttempt (grantAttempt s .h) .f

end Sys2Proof.Machine
end

