-- ==== Sys2Proof/Machine/Sensors.lean ====
section
/-!
DEFINITION. The sensor poller (chapter 08): the rotation, the outcome of a poll, states and limits, the answers to the requests
for a next sample, enabling and disabling.
-/

namespace Sys2Proof.Machine

/-! ## The rotation (R142) -/

/-- The sensor index `k` places after another, wrapping after 15. -/
def sensorAfter (i : SensorIx) (k : Nat) : SensorIx := Fin.ofNat 16 (i.val + k)

/-- The first enabled entry after the one last polled, counting upward and wrapping. -/
def nextEnabled (s : State) : Option SensorIx :=
  ((List.range 16).map fun k => sensorAfter s.sn.lastPolled (k + 1)).find? fun i => s.sn.sensors[i].enabled

/-- A slot begins at a clock value: the next is due slot_interval later, and the chosen entry's poll begins. -/
def beginSlot (s : State) (start : Clock) : State :=
  let s := { s with sn.slotDue := start + msec s.cfg.slotInterval }
  match nextEnabled s with
  | some i =>
    let e := s.sn.sensors[i]
    { s with sn.lastPolled := i, sn.inFlight := some ⟨i, e.address, e.sampleIndex, false⟩ }
  | none => s

/-- The next slot begins when it is due and no poll is in flight (R142, assumption 19). -/
def slotStarts (s : State) : State :=
  if s.sn.inFlight.isNone && reached s.clock s.sn.slotDue then beginSlot s s.sn.slotDue else s

/-! ## The sensor line (R143, R145) -/

/-- What SN sends at steps 1, 2 and 3 of a transaction (R143). -/
def stepsSent (p : Poll) : List (List LineSignal) :=
  [[.start, .addressWrite p.address], [.byte p.sampleIndex], [.repeatedStart, .addressRead p.address]]

/-- What SN sends in one transaction: the steps up to the one that is not acknowledged and a stop, or all three steps, an
acknowledgement of each data byte, none of the check byte, and a stop (R143). -/
def transactionSent (p : Poll) : Transaction → List LineSignal
  | .nack k => ((stepsSent p).take (k.val + 1)).flatten ++ [.stop]
  | .bytes .. => (stepsSent p).flatten ++ [.acknowledge, .acknowledge, .noAcknowledge, .stop]

/-- What SN sends in one poll: a second transaction only when the first fails (R145). -/
def pollSent (p : Poll) (first retry : Transaction) : List LineSignal :=
  transactionSent p first ++ (if (transactionWord first).isSome then [] else transactionSent p retry)

/-! ## States and limits (R146 to R149) -/

/-- The entry has limits: every kind but SCALE (R147). -/
def hasLimits (e : Sensor) : Bool := e.kind != .scale

/-- The state a value gives an entry that comes from INIT or out of FAULT. -/
def freshState (e : Sensor) (value : Int) : SensorState :=
  if hasLimits e ∧ e.thresholds.1 ≤ value then .high else .normal

/-- The state a good poll leaves an entry in that was not in FAULT (R147). -/
def judgedState (e : Sensor) (value : Int) : SensorState :=
  match e.state with
  | .high => if hasLimits e ∧ e.thresholds.2 < value then .high else .normal
  | _ => freshState e value

/-- The entry after a good poll with a data word (R146, R147, R149). -/
def goodPoll (e : Sensor) (word : Nat) (now : Clock) : Sensor :=
  let v := decodeSample e.kind word
  let e := { e with latest := some (v, now), saturated := isSaturated e.kind word, failCount := 0 }
  if e.state = .fault then
    if 2 ≤ e.goodCount + 1 then { e with state := freshState e v, stale := false, goodCount := 0 }
    else { e with goodCount := e.goodCount + 1 }
  else { e with state := judgedState e v }

/-- The entry after a failed poll (R148). -/
def failedPoll (e : Sensor) : Sensor :=
  let f := min (e.failCount + 1) 3
  if e.state = .fault then { e with failCount := f, goodCount := 0 }
  else if f = 3 then { e with failCount := f, state := .fault, stale := true, faultLatch := true, goodCount := 0 }
  else { e with failCount := f }

/-- LIMIT is sent at a change of state caused by a poll (R152). -/
def sendLimit (s : State) (i : SensorIx) (before : SensorState) : State :=
  let e := s.sn.sensors[i]
  if e.state = before then s
  else
    toSupervisor s (.limit i e.kind before e.state ((e.latest.map (·.1)).getD 0) e.stale e.saturated
      (optAgeMs s.clock (e.latest.map (·.2))))

/-! ## Answers to the requests (R113, R150) -/

/-- A completed sample as its requester judges it: a gross, or none when it cannot be used (R113, R125). -/
def usableGross (e : Sensor) (raw : Int) : Option Int :=
  if e.kind = .scale ∧ e.state ≠ .fault ∧ convertible raw = true then some (grossOf raw e.zero e.span) else none

/-- The requests that an outcome of an entry's poll answers: those pending on the entry, CS's first and the vessels' in the
order in which they were made (assumption 15). -/
def dueRequests (s : State) (i : SensorIx) : List SampleRequest :=
  let due := s.sn.requests.filter (·.index == i)
  due.filter (·.requester == .condensate) ++ due.filter (·.requester != .condensate)

/-- One request is answered, unless it has been withdrawn in the same event. -/
def answerRequest (s : State) (r : SampleRequest) (gross : Option Int) : State :=
  if s.sn.requests.contains r then
    takeAnswer { s with sn.requests := s.sn.requests.erase r } r.requester gross
  else s

/-- An entry's outcome is handed on: to CS for its phase rules (R151), then as the answer to every request that was pending on
the entry (R150). CS comes first, so that its PHASE stands ahead of a HOLD RAISED that a booking brings (R155, assumption
15). -/
def handOutcome (s : State) (i : SensorIx) (good : Bool) (gross : Option Int) : State :=
  (dueRequests s i).foldl (fun s r => answerRequest s r gross) (chamberSensor s i good)

/-! ## The end of a poll (R145 to R152) -/

/-- A poll has ended good, with a data word. -/
def pollGood (s : State) (i : SensorIx) (word : Nat) : State :=
  let before := s.sn.sensors[i].state
  let s := updSensor s i fun e => goodPoll e word s.clock
  let s := sendLimit s i before
  let e := s.sn.sensors[i]
  handOutcome s i true (usableGross e (decodeSample e.kind word))

/-- A poll has ended failed. -/
def pollFailed (s : State) (i : SensorIx) : State :=
  let before := s.sn.sensors[i].state
  let s := updSensor s i failedPoll
  if s.sn.sensors[i].state = before then s
  else handOutcome (sendLimit s i before) i false none

/-- The poll in flight ends: what it sent is kept, the slot is over, and a slot that was due begins at this moment (R142,
R143). -/
def closePoll (s : State) (sent : List LineSignal) : State :=
  { s with
    sn.inFlight := none
    sn.sent := sent
    sn.slotDue := if reached s.clock s.sn.slotDue then s.clock else s.sn.slotDue }

/-- SN takes the outcome of the poll in flight, good with a data word or failed (R145). A poll of an entry disabled meanwhile
is discarded (R141). -/
def pollEnds (s : State) (first retry : Transaction) : State :=
  match s.sn.inFlight with
  | none => s
  | some p =>
    let s := closePoll s (pollSent p first retry)
    if p.discarded then s
    else
      match pollWord first retry with
      | some w => pollGood s p.index w
      | none => pollFailed s p.index

/-- A request made on an entry that was disabled or in FAULT is answered unusable (R150). -/
def immediateAnswer (s : State) (r : Requester) : State :=
  if s.sn.immediate.contains r then takeAnswer { s with sn.immediate := s.sn.immediate.erase r } r none else s

/-! ## Enabling and disabling (R141) -/

/-- The readings of an entry are discarded. -/
def clearReadings (e : Sensor) : Sensor :=
  { e with state := .init, latest := none, stale := false, saturated := false, failCount := 0, goodCount := 0 }

/-- The enabled mark of an entry is written (R141; the event at CS: assumption 32). -/
def setEnabled (s : State) (i : SensorIx) (b : Bool) : State :=
  if s.sn.sensors[i].enabled = b then s
  else if b then chamberSensor (updSensor s i fun e => { clearReadings e with enabled := true }) i false
  else
    let s := updSensor s i fun e => { clearReadings e with enabled := false }
    let s := { s with
      sn.inFlight := s.sn.inFlight.map fun p => if p.index = i then { p with discarded := true } else p }
    handOutcome s i false none

/-! ## Line Reset (R139, R142) -/

/-- SN at Line Reset: readings and latches go, requests and the poll in flight are discarded, and the rotation starts again in
this event. -/
def sensorsReset (s : State) : State :=
  let s := { s with
    sn.sensors := s.sn.sensors.map fun e => { clearReadings e with faultLatch := false }
    sn.lastPolled := 15
    sn.inFlight := none
    sn.requests := []
    sn.immediate := []
    sn.sent := [] }
  beginSlot s s.clock

end Sys2Proof.Machine
end

