-- ==== Sys2Proof/Machine/Configure.lean ====
section
/-!
DEFINITION. Configuration (12.2) and the recipe (9.3): what a Config Write, a Config Read, a Recipe Write and a Recipe Commit do
with an item. A write answers the state after it and the value as stored, or the reason of its refusal.
-/

namespace Sys2Proof.Machine

/-- The outcome of a write. -/
abbrev WriteResult := Except Reason (State × Value)

/-- The number a value carries; a value of another form is no valid code for a numeric item (assumption 21). -/
def numberOf : Value → Option Int
  | .number v => some v
  | _ => none

/-! ## The line and class tables -/

/-- The range of a line item (R202 and the rules it names). -/
def lineRange : LineItem → Nat × Nat
  | .passageTimeout => (2, 30)
  | .heartbeatTimeout => (500, 30000)
  | .filterTime => (5, 100)
  | .slotInterval => (10, 500)
  | .holdDelay => (1, 60)
  | .holdEnd => (5, 300)
  | .riseLimit => (0, 20000)
  | .reevacMax => (0, 3)
  | .negTolerance => (0, 500)
  | .completeMin => (500, 1500)
  | .overMax => (500, 1500)
  | .reconcileWindow => (10, 600)

/-- The value of a line item. -/
def lineValue (c : ConfigTables) : LineItem → Nat
  | .passageTimeout => c.passageTimeout
  | .heartbeatTimeout => c.heartbeatTimeout
  | .filterTime => c.filterTime
  | .slotInterval => c.slotInterval
  | .holdDelay => c.holdDelay
  | .holdEnd => c.holdEnd
  | .riseLimit => c.riseLimit
  | .reevacMax => c.reevacMax
  | .negTolerance => c.negTolerance
  | .completeMin => c.completeMin
  | .overMax => c.overMax
  | .reconcileWindow => c.reconcileWindow

/-- The tables with another value of a line item. -/
def withLine (c : ConfigTables) (i : LineItem) (v : Nat) : ConfigTables :=
  match i with
  | .passageTimeout => { c with passageTimeout := v }
  | .heartbeatTimeout => { c with heartbeatTimeout := v }
  | .filterTime => { c with filterTime := v }
  | .slotInterval => { c with slotInterval := v }
  | .holdDelay => { c with holdDelay := v }
  | .holdEnd => { c with holdEnd := v }
  | .riseLimit => { c with riseLimit := v }
  | .reevacMax => { c with reevacMax := v }
  | .negTolerance => { c with negTolerance := v }
  | .completeMin => { c with completeMin := v }
  | .overMax => { c with overMax := v }
  | .reconcileWindow => { c with reconcileWindow := v }

/-- The pair rules of the line table: hold_end above hold_delay, complete_min below over_max (R93, R124). -/
def linePairs (c : ConfigTables) : Bool := decide (c.holdDelay < c.holdEnd) && decide (c.completeMin < c.overMax)

/-- A write of a line item. -/
def writeLine (s : State) (i : LineItem) (v : Value) : WriteResult :=
  match numberOf v with
  | none => .error .badValue
  | some k =>
    let x := clampNat (lineRange i).1 (lineRange i).2 k
    let c := withLine s.cfg i x
    if linePairs c then .ok ({ s with cfg := c }, .number x) else .error .badValue

/-- The dwell and the oil fraction of a stream class. -/
def dwellOf (c : ConfigTables) : Stream → Nat
  | .h => c.dwellH
  | .f => c.dwellF

/-- A write of a class table dwell. -/
def writeDwell (s : State) (c : Stream) (v : Value) : WriteResult :=
  match numberOf v with
  | none => .error .badValue
  | some k =>
    let x := clampNat 10 600 k
    .ok ({ s with cfg := match c with | .h => { s.cfg with dwellH := x } | .f => { s.cfg with dwellF := x } }, .number x)

/-- A write of a class table oil fraction. -/
def writeOil (s : State) (c : Stream) (v : Value) : WriteResult :=
  match numberOf v with
  | none => .error .badValue
  | some k =>
    let x := clampNat 0 200 k
    .ok ({ s with cfg := match c with | .h => { s.cfg with oilPmH := x } | .f => { s.cfg with oilPmF := x } }, .number x)

/-! ## The zone table (R25) -/

/-- The place whose capacity an item sets. -/
def capPlace : CapZone → Place
  | .intake => .intake
  | .lane l => .lane l
  | .buffer => .buffer
  | .exit => .exit

/-- The largest capacity of a zone (R25). -/
def capLimit : CapZone → Nat
  | .intake => 16
  | .lane _ => 12
  | .buffer => 24
  | .exit => 16

/-- The tables with another capacity. -/
def withCapacity (c : ConfigTables) (z : CapZone) (v : Nat) : ConfigTables :=
  match z with
  | .intake => { c with capIntake := v }
  | .lane l => { c with capLanes := c.capLanes.set l v }
  | .buffer => { c with capBuffer := v }
  | .exit => { c with capExit := v }

/-- All places: the capacities with the 9 station positions and 4 chamber places (R25). -/
def totalCapacity (c : ConfigTables) : Nat :=
  c.capIntake + c.capLanes.a + c.capLanes.b + c.capLanes.c + c.capBuffer + c.capExit + Config.fixedPlaces

/-- A write of a capacity. -/
def writeCapacity (s : State) (z : CapZone) (v : Value) : WriteResult :=
  if s.line.state ≠ .config then .error .lineState
  else
    match numberOf v with
    | none => .error .badValue
    | some k =>
      let x := k.toNat
      let c := withCapacity s.cfg z x
      if 1 ≤ k ∧ k ≤ capLimit z ∧ totalCapacity c ≤ Config.tableSlots ∧ (zoneList s (capPlace z)).length ≤ x then
        .ok ({ s with cfg := c }, .number x)
      else .error .badValue

/-- A write of a lane rating. -/
def writeRating (s : State) (l : Lane) (v : Value) : WriteResult :=
  if s.line.state ≠ .config then .error .lineState
  else
    match v with
    | .rating r => .ok ({ s with cfg.ratings := s.cfg.ratings.set l r }, v)
    | _ => .error .badValue

/-! ## The vessel table (R106) -/

/-- The vessel with another value of an item, and the value as stored. -/
def withVesselItem (x : Vessel) (i : VesselItem) (v : Value) : Option (Vessel × Value) :=
  match i, v with
  | .streamClass, .stream c => some ({ x with streamClass := c }, v)
  | .capacityG, .number k =>
    let y := clampNat 1000 60000 k
    some ({ x with capacityG := y }, .number y)
  | .fillPm, .number k =>
    let y := clampNat 500 950 k
    some ({ x with fillPm := y }, .number y)
  | .settleS, .number k =>
    let y := clampNat 1 10 k
    some ({ x with settleS := y }, .number y)
  | .scaleSensor, .number k =>
    if k < 0 then none else (sensorOfIndex k.toNat).map fun j => ({ x with scaleSensor := j }, v)
  | _, _ => none

/-- The value of a vessel item. -/
def vesselValue (x : Vessel) : VesselItem → Value
  | .streamClass => .stream x.streamClass
  | .capacityG => .number x.capacityG
  | .fillPm => .number x.fillPm
  | .settleS => .number x.settleS
  | .scaleSensor => .number x.scaleSensor.val

/-- A write of a vessel item. -/
def writeVessel (s : State) (v : VesselIx) (i : VesselItem) (val : Value) : WriteResult :=
  if s.vu.vessels[v].state ≠ .offline then .error .badStage
  else
    match withVesselItem s.vu.vessels[v] i val with
    | some (x, stored) => .ok (updVessel s v fun _ => x, stored)
    | none => .error .badValue

/-! ## The sensor table (R140, R141) -/

/-- The default threshold pair of a kind (R140); for SCALE the unused pair (assumption 20). -/
def defaultThresholds : SensorKind → Int × Int
  | .o2 => (250, 240)
  | .lel => (1000, 990)
  | .temp => (1000, 990)
  | .scale => unusedThresholds

/-- The threshold range of a kind (R140). -/
def thresholdRange : SensorKind → Int × Int
  | .o2 => (0, 250)
  | .lel => (0, 1000)
  | .temp => (-1000, 1000)
  | .scale => (0, 0)

/-- A number within a range. -/
def inRange (lo hi k : Int) : Bool := decide (lo ≤ k) && decide (k ≤ hi)

/-- The entry with another value of an identity item, and the value as stored. -/
def withIdentity (e : Sensor) (i : SensorItem) (v : Value) : Option (Sensor × Value) :=
  match i, v with
  | .address, .number k => if inRange 8 119 k then some ({ e with address := k.toNat }, v) else none
  | .kind, .kind k => some ({ e with kind := k, thresholds := defaultThresholds k }, v)
  | .sampleIndex, .number k => if inRange 0 255 k then some ({ e with sampleIndex := k.toNat }, v) else none
  | .zero, .number k => if inRange 0 65535 k then some ({ e with zero := k.toNat }, v) else none
  | .span, .number k =>
    let y := clampNat 1 4095 k
    some ({ e with span := y }, .number y)
  | _, _ => none

/-- The entry with another threshold, and the value as stored: refused for SCALE, and where deassert would not be below
assert. -/
def withThreshold (e : Sensor) (i : SensorItem) (v : Value) : Option (Sensor × Value) :=
  match hasLimits e, numberOf v with
  | true, some k =>
    let x := clampInt (thresholdRange e.kind).1 (thresholdRange e.kind).2 k
    let p := if i = .assertLimit then (x, e.thresholds.2) else (e.thresholds.1, x)
    if p.2 < p.1 then some ({ e with thresholds := p }, .number x) else none
  | _, _ => none

/-- The value of a sensor item; the thresholds of a SCALE entry are not reported (R138, assumption 20), the zero and span of an
entry of another kind are, as stored (R203, assumption 41). -/
def sensorValue (e : Sensor) : SensorItem → Option Value
  | .enabled => some (.mark e.enabled)
  | .address => some (.number e.address)
  | .kind => some (.kind e.kind)
  | .sampleIndex => some (.number e.sampleIndex)
  | .zero => some (.number e.zero)
  | .span => some (.number e.span)
  | .assertLimit => if hasLimits e then some (.number e.thresholds.1) else none
  | .deassertLimit => if hasLimits e then some (.number e.thresholds.2) else none

/-- A write of a sensor item. -/
def writeSensor (s : State) (j : SensorIx) (i : SensorItem) (v : Value) : WriteResult :=
  match i with
  | .enabled =>
    match v with
    | .mark b => .ok (setEnabled s j b, v)
    | _ => .error .badValue
  | .assertLimit | .deassertLimit =>
    match withThreshold s.sn.sensors[j] i v with
    | some (e, stored) => .ok (updSensor s j fun _ => e, stored)
    | none => .error .badValue
  | _ =>
    if s.sn.sensors[j].enabled then .error .badStage
    else
      match withIdentity s.sn.sensors[j] i v with
      | some (e, stored) => .ok (updSensor s j fun _ => e, stored)
      | none => .error .badValue

/-! ## Config Write and Config Read (R202, R203) -/

/-- A Config Write of an item, with the checks of R202 in their order. -/
def writeItem (s : State) (i : ConfigItem) (v : Value) : WriteResult :=
  match i with
  | .line i => writeLine s i v
  | .dwell c => writeDwell s c v
  | .oilPm c => writeOil s c v
  | .capacity z => writeCapacity s z v
  | .rating l => writeRating s l v
  | .vessel ix i =>
    match vesselOfIndex ix with
    | some x => writeVessel s x i v
    | none => .error .badValue
  | .sensor ix i =>
    match sensorOfIndex ix with
    | some j => writeSensor s j i v
    | none => .error .badValue

/-- The value of a configuration item. -/
def readItem (s : State) : ConfigItem → Option Value
  | .line i => some (.number (lineValue s.cfg i))
  | .dwell c => some (.number (dwellOf s.cfg c))
  | .oilPm c => some (.number (oilPm s.cfg (classOfStream c)))
  | .capacity z => some (.number (capacity s (capPlace z)))
  | .rating l => some (.rating (s.cfg.ratings.get l))
  | .vessel ix i => (vesselOfIndex ix).map fun v => vesselValue s.vu.vessels[v] i
  | .sensor ix i => (sensorOfIndex ix).bind fun j => sensorValue s.sn.sensors[j] i

/-! ## The recipe (R158) -/

/-- The range of a parameter. purge_max runs from one above purge_min. -/
def paramRange (r : Recipe) : Param → Int × Int
  | .batchSize => (1, 4)
  | .fFoamMax => (0, 4)
  | .loadWait => (5, 600)
  | .sealTimeout => (5, 120)
  | .purgeTarget => (0, 250)
  | .purgeMin => (0, 600)
  | .purgeMax => ((r.purgeMin : Int) + 1, 1200)
  | .o2ShredMax => (0, 250)
  | .o2Abort => (0, 250)
  | .lelResume => (0, 1000)
  | .lelPause => (0, 1000)
  | .dutyMin => (0, 256)
  | .lelAbort => (0, 1000)
  | .shredTime => (30, 1800)
  | .pauseMax => (10, 600)
  | .condenseTime => (30, 1800)
  | .trapMax => (-1000, 1000)
  | .condenseSettle => (1, 10)
  | .unloadTime => (10, 600)
  | .pwmPeriod => (20, 1000)
  | .dutyBase => (0, 256)
  | .lelTarget => (0, 1000)
  | .kp => (0, 64)

/-- The value of a parameter. -/
def paramValue (r : Recipe) : Param → Int
  | .batchSize => r.batchSize
  | .fFoamMax => r.fFoamMax
  | .loadWait => r.loadWait
  | .sealTimeout => r.sealTimeout
  | .purgeTarget => r.purgeTarget
  | .purgeMin => r.purgeMin
  | .purgeMax => r.purgeMax
  | .o2ShredMax => r.o2ShredMax
  | .o2Abort => r.o2Abort
  | .lelResume => r.lelResume
  | .lelPause => r.lelPause
  | .dutyMin => r.dutyMin
  | .lelAbort => r.lelAbort
  | .shredTime => r.shredTime
  | .pauseMax => r.pauseMax
  | .condenseTime => r.condenseTime
  | .trapMax => r.trapMax
  | .condenseSettle => r.condenseSettle
  | .unloadTime => r.unloadTime
  | .pwmPeriod => r.pwmPeriod
  | .dutyBase => r.dutyBase
  | .lelTarget => r.lelTarget
  | .kp => r.kp

/-- The recipe with another value of a parameter. A purge_min at or above purge_max raises purge_max above it (R158). -/
def withParam (r : Recipe) (p : Param) (x : Int) : Recipe :=
  let v := x.toNat
  match p with
  | .batchSize => { r with batchSize := v }
  | .fFoamMax => { r with fFoamMax := v }
  | .loadWait => { r with loadWait := v }
  | .sealTimeout => { r with sealTimeout := v }
  | .purgeTarget => { r with purgeTarget := v }
  | .purgeMin => { r with purgeMin := v, purgeMax := if r.purgeMax ≤ v then v + 1 else r.purgeMax }
  | .purgeMax => { r with purgeMax := v }
  | .o2ShredMax => { r with o2ShredMax := v }
  | .o2Abort => { r with o2Abort := v }
  | .lelResume => { r with lelResume := v }
  | .lelPause => { r with lelPause := v }
  | .dutyMin => { r with dutyMin := v }
  | .lelAbort => { r with lelAbort := v }
  | .shredTime => { r with shredTime := v }
  | .pauseMax => { r with pauseMax := v }
  | .condenseTime => { r with condenseTime := v }
  | .trapMax => { r with trapMax := x }
  | .condenseSettle => { r with condenseSettle := v }
  | .unloadTime => { r with unloadTime := v }
  | .pwmPeriod => { r with pwmPeriod := v }
  | .dutyBase => { r with dutyBase := v }
  | .lelTarget => { r with lelTarget := v }
  | .kp => { r with kp := v }

/-- The sensor a recipe names. -/
def sensorNameValue (r : Recipe) : SensorName → Value
  | .o2 => .number r.o2Sensor.val
  | .lel1 => .number r.lel1Sensor.val
  | .lel2 => match r.lel2Sensor with | some i => .number i.val | none => .absent
  | .trap => .number r.trapSensor.val
  | .condensate => .number r.condensateSensor.val

/-- The recipe with another sensor name; only lel2_sensor takes none. -/
def withSensorName (r : Recipe) (n : SensorName) (v : Value) : Option Recipe :=
  match n, v with
  | .lel2, .absent => some { r with lel2Sensor := none }
  | n, .number k =>
    if k < 0 then none
    else
      (sensorOfIndex k.toNat).map fun i =>
        match n with
        | .o2 => { r with o2Sensor := i }
        | .lel1 => { r with lel1Sensor := i }
        | .lel2 => { r with lel2Sensor := some i }
        | .trap => { r with trapSensor := i }
        | .condensate => { r with condensateSensor := i }
  | _, _ => none

/-- A level as a drive. -/
def levelDrive (b : Bool) : Drive := if b then .on else .off

/-- What a pattern gives an output. -/
def rowDrive (p : PatternRow) : Output → Drive
  | .n2Prop => p.n2Prop
  | .n2Full => levelDrive p.n2Full
  | .vent => levelDrive p.vent
  | .circFan => levelDrive p.circFan
  | .trapCool => levelDrive p.trapCool
  | .shredDrive => levelDrive p.shredDrive
  | .doorLock => levelDrive p.doorLock
  | .discharge => levelDrive p.discharge
  | .drain => levelDrive p.drain
  | .beacon => levelDrive p.beacon

/-- The pattern with another value for an output; PWM only for N2_PROP. -/
def withRowDrive (p : PatternRow) (o : Output) (d : Drive) : Option PatternRow :=
  let level (f : Bool → PatternRow) : Option PatternRow :=
    match d with
    | .on => some (f true)
    | .off => some (f false)
    | .pwm => none
  match o with
  | .n2Prop => some { p with n2Prop := d }
  | .n2Full => level fun b => { p with n2Full := b }
  | .vent => level fun b => { p with vent := b }
  | .circFan => level fun b => { p with circFan := b }
  | .trapCool => level fun b => { p with trapCool := b }
  | .shredDrive => level fun b => { p with shredDrive := b }
  | .doorLock => level fun b => { p with doorLock := b }
  | .discharge => level fun b => { p with discharge := b }
  | .drain => level fun b => { p with drain := b }
  | .beacon => level fun b => { p with beacon := b }

/-- The table with another pattern for a phase; SAFE has none. -/
def withPattern (t : Patterns) (ph : Phase) (f : PatternRow → Option PatternRow) : Option Patterns :=
  match ph with
  | .idle => (f t.idle).map fun p => { t with idle := p }
  | .loading => (f t.loading).map fun p => { t with loading := p }
  | .sealing => (f t.sealing).map fun p => { t with sealing := p }
  | .purging => (f t.purging).map fun p => { t with purging := p }
  | .shredding => (f t.shredding).map fun p => { t with shredding := p }
  | .paused => (f t.paused).map fun p => { t with paused := p }
  | .condensing => (f t.condensing).map fun p => { t with condensing := p }
  | .unloading => (f t.unloading).map fun p => { t with unloading := p }
  | .aborted => (f t.aborted).map fun p => { t with aborted := p }
  | .safe => none

/-- The recipe with another value of an item, and the value as stored; none where the write is refused (R158). -/
def withRecipeItem (r : Recipe) (i : RecipeItem) (v : Value) : Option (Recipe × Value) :=
  match i, v with
  | .param p, .number k =>
    let x := clampInt (paramRange r p).1 (paramRange r p).2 k
    some (withParam r p x, .number x)
  | .sensorName n, v => (withSensorName r n v).map fun r => (r, v)
  | .pattern ph (some o), .drive d =>
    (withPattern r.patterns ph fun p => withRowDrive p o d).map fun t => ({ r with patterns := t }, v)
  | _, _ => none

/-- The value of a recipe item; none for an item that names nothing. -/
def recipeValue (r : Recipe) : RecipeItem → Option Value
  | .param p => some (.number (paramValue r p))
  | .sensorName n => some (sensorNameValue r n)
  | .pattern .safe _ => none
  | .pattern _ none => none
  | .pattern ph (some o) => some (.drive (rowDrive (patternOf r ph) o))

/-- The phases of the pattern table, in its order. -/
def patternPhases : List Phase :=
  [.idle, .loading, .sealing, .purging, .shredding, .paused, .condensing, .unloading, .aborted]

/-- The first condition of the commit check that fails, in R159's order. -/
def commitFailure (r : Recipe) : Option CommitCondition :=
  if ¬(r.lelResume < r.lelPause ∧ r.lelPause < r.lelAbort) then some .lelOrder
  else if ¬(r.purgeTarget ≤ r.o2ShredMax ∧ r.o2ShredMax < r.o2Abort) then some .o2Order
  else if patternPhases.any fun p => p != .shredding && (patternOf r p).shredDrive then some .shredDriveOff
  else if [Phase.sealing, .purging, .shredding, .paused, .condensing, .aborted].any fun p => !(patternOf r p).doorLock then
    some .doorLockOn
  else none

/-- A read-only line-state item (R200, R203). -/
def statusResult (s : State) : StatusItem → Result
  | .lineState => .lineState s.line.state
  | .estopActive => .stored (.mark s.line.estopActive)
  | .windowExpired => .stored (.mark s.line.windowExpired)
  | .reconcileRemaining => .stored (.number (remainingMs s.clock s.tu.reconcile))

/-- What a Config Read of an item carries; none where it is refused (R203). -/
def readResult (s : State) : Item → Option Result
  | .config i => (readItem s i).map .stored
  | .recipe staged i =>
    (recipeValue (if staged then s.cs.staged else s.cs.working) i).map fun v => .recipe v s.cs.commitMark
  | .status i => some (statusResult s i)

end Sys2Proof.Machine
end

