-- ==== Sys2Proof/Machine/LinePort.lean ====
section
/-!
DEFINITION. The line port (chapter 11): receipt of frames, the taking of a request with its checks and its answer, and the
transmitter.
-/

namespace Sys2Proof.Machine

/-! ## Answers (R192) -/

/-- What a request is answered: status, reason, the result of part 0 and those of the later parts. -/
structure Reply where
  status : Status
  reason : Option Reason
  first  : Result
  later  : List Result
  deriving DecidableEq, Repr

/-- A DONE answer of one frame. -/
def replyDone (r : Result) : Reply := ⟨.done, none, r, []⟩

/-- A DONE answer of several frames. -/
def replyParts (r : Result) (later : List Result) : Reply := ⟨.done, none, r, later⟩

/-- A QUEUED answer. -/
def replyQueued (r : Result) : Reply := ⟨.queued, none, r, []⟩

/-- A REFUSED answer: one frame with a reason. -/
def replyRefused (r : Reason) : Reply := ⟨.refused, some r, .empty, []⟩

/-- The later frames of an answer, from a part index on. -/
def laterFrames (dest : Nat) : Nat → List Result → List AnswerFrame
  | _, [] => []
  | k, r :: rs => ⟨dest, k, .more r⟩ :: laterFrames dest (k + 1) rs

/-- The frames of an answer, in part order (R192). -/
def replyFrames (dest code : Nat) (r : Reply) : List AnswerFrame :=
  ⟨dest, 0, .head r.status r.reason code r.first⟩ :: laterFrames dest 1 r.later

/-! ## Receipt (R188, R189) -/

/-- A frame of a station restarts the node's heartbeat counter, whatever becomes of it (R188, R79). -/
def restartHeartbeat (s : State) (f : Frame) : State :=
  match frameSender f with
  | some (.station n) => setHeartbeat s n (chRestart s.clock s.cfg.heartbeatTimeout s.tu.heartbeat[n])
  | _ => s

/-- A frame that passed the filter is queued, answered QUEUE_FULL, or discarded (R189). -/
def queueFrame (s : State) (f : Frame) : State :=
  if s.lp.requests.length < Config.queueDepth then { s with lp.requests := s.lp.requests ++ [f] }
  else if s.lp.answers.length < Config.queueDepth then
    placeAnswer s (replyFrames (frameSource f) (frameKind f) (replyRefused .queueFull))
  else s

/-- A frame reaches LP (R188, R189, R195). -/
def receiveFrame (s : State) (f : Frame) : State :=
  if s.lp.bus = .onBus ∧ frameAccepted f = true then queueFrame (restartHeartbeat s f) f else s

/-- FRAME_RECEIVED (R189). -/
def execFrameReceived (f : Frame) (s : State) : Answer := .next (receiveFrame s f)

/-! ## The taking of a request (R190, R191) -/

/-- The transmit queue has room for so many frames. -/
def hasRoom (s : State) (frames : Nat) : Bool := decide (s.lp.answers.length + frames ≤ Config.queueDepth)

/-- The head of the request queue, taken when it is of the kind and the transmit queue has room for its largest answer
(R190). -/
def takeRequest (k : ReqKind) (s : State) : Option (Frame × State) :=
  match s.lp.requests with
  | f :: rest =>
    if frameKind f = k.code ∧ hasRoom s k.frames = true then some (f, { s with lp.requests := rest }) else none
  | [] => none

/-- The refusal of a request before its owner sees it: LP's length check (R190), then the sender checks (R191, R52). -/
def senderRefusal (k : ReqKind) (f : Frame) (who : Sender) (s : State) : Option Reason :=
  if f.data.length < k.minBytes then some .badValue
  else
    match who with
    | .station n =>
      if k ≠ .join ∧ s.stations[n].state ≠ .joined then some .notJoined
      else if k.stationMay s.stations[n].kind = false then some .notPermitted
      else if s.line.state = .stopped ∧ k.refusedInStopped = true then some .lineState
      else none
    | .supervisor => if k.supervisorMay = false then some .notPermitted else none

/-- What the owner of a request does with it, and its answer. -/
abbrev Body := Sender → Frame → State → State × Reply

/-- The body of a request that only stations may send. -/
def stationBody (b : Node → Frame → State → State × Reply) : Body
  | .station n, f, s => b n f s
  | .supervisor, _, s => (s, replyRefused .notPermitted)

/-- The body of a request that only the supervisor may send. -/
def supervisorBody (b : Frame → State → State × Reply) : Body
  | .supervisor, f, s => b f s
  | .station _, _, s => (s, replyRefused .notPermitted)

/-- A request that was taken is checked and served by its owner. -/
def serve (k : ReqKind) (b : Body) (f : Frame) (s : State) : State × Reply :=
  match frameSender f with
  | none => (s, replyRefused .notPermitted)
  | some who =>
    match senderRefusal k f who s with
    | some r => (s, replyRefused r)
    | none => b who f s

/-- One request: taken, checked, served, answered, as one event (R190 to R192). Nothing happens while its kind is not at the
head of the queue or the room is lacking. -/
def request (k : ReqKind) (b : Body) (s : State) : State :=
  match takeRequest k s with
  | none => s
  | some (f, t) =>
    let out := serve k b f t
    placeAnswer out.1 (replyFrames (frameSource f) k.code out.2)

/-- UNKNOWN_KIND (R190): a head whose code names no request is answered REFUSED. -/
def refuseUnknown (s : State) : State :=
  match s.lp.requests with
  | f :: rest =>
    if isRequestCode (frameKind f) = false ∧ hasRoom s 1 = true then
      placeAnswer { s with lp.requests := rest } (replyFrames (frameSource f) (frameKind f) (replyRefused .unknownKind))
    else s
  | [] => s

/-- UNKNOWN_KIND (R190). -/
def execUnknownKind (s : State) : Answer := .next (refuseUnknown s)

/-! ## The transmitter (R194, R195) -/

/-- The frames of a notice (R193). -/
def noticeFrames : NoticeBody → Nat
  | .discharge .. => 2
  | _ => 1

/-- An answer has begun: its part 0 has left, and a later part stands at the head (R194). -/
def answerBegun (s : State) : Bool := s.lp.answers.head?.any fun a => decide (0 < a.part)

/-- The queue the next frame comes from: the one that holds frames, an answer already begun, or the queue that the last
frame sent did not leave (R194, assumption 12). -/
def nextSide (s : State) : Option Side :=
  match s.lp.answers.isEmpty, s.lp.notices.isEmpty with
  | true, true => none
  | false, true => some .transmit
  | true, false => some .notice
  | false, false => if answerBegun s then some .transmit else some s.lp.prefer

/-- The next frame, formed from the head of the chosen queue (R194, R197). -/
def nextFrame (s : State) : Option Transmission :=
  match nextSide s with
  | some .transmit => s.lp.answers.head?.map fun a => ⟨.answer, formAnswer a⟩
  | some .notice => s.lp.notices.head?.map fun n => ⟨.notice, formNotice n s.lp.noticeParts⟩
  | none => none

/-- The transmitter, free on a bus that is on, begins the next frame, if one stands in a queue (R194). -/
def startTransmission (s : State) : State :=
  if s.lp.bus = .onBus ∧ s.lp.sending = none then { s with lp.sending := nextFrame s } else s

/-- TRANSMISSION_START (R194). -/
def execTransmissionStart (s : State) : Answer := .next (startTransmission s)

/-- One frame of the head notice has been sent: the notice leaves with its last frame (R194). -/
def noticeSent (p : LinePort) : LinePort :=
  match p.notices with
  | n :: rest =>
    if noticeFrames n.body ≤ p.noticeParts + 1 then { p with notices := rest, noticeParts := 0 }
    else { p with noticeParts := p.noticeParts + 1 }
  | [] => p

/-- A transmission has ended without error: the frame leaves its queue and the error count falls by 1, down to 0 (R194,
R195). -/
def endTransmission (s : State) : State :=
  match s.lp.sending with
  | none => s
  | some w =>
    let p := { s.lp with sending := none, errorCount := s.lp.errorCount - 1 }
    { s with lp := match w.side with
      | .answer => { p with answers := p.answers.tail, prefer := .notice }
      | .notice => { noticeSent p with prefer := .transmit }
      | .orphan => p }

/-- FRAME_TRANSMITTED (R194, R195). -/
def execFrameTransmitted (s : State) : Answer := .next (endTransmission s)

/-- A transmission has failed: the frame stays at the head of its queue. An error adds 8 to the count, and a count above 255
puts LP into BUS_OFF (R194, R195). -/
def failTransmission (s : State) (how : TransmitFailure) : State :=
  match s.lp.sending with
  | none => s
  | some _ =>
    match how with
    | .lostArbitration => { s with lp.sending := none }
    | .error =>
      let k := s.lp.errorCount + Config.errorStep
      { s with
        lp.sending := none
        lp.errorCount := k
        lp.bus := if Config.busOffLimit < k then .busOff else s.lp.bus }

/-- TRANSMIT_ERROR (R194, R195). -/
def execTransmitError (how : TransmitFailure) (s : State) : Answer := .next (failTransmission s how)

/-- LP leaves BUS_OFF (R195). -/
def recoverBus (s : State) : State :=
  match s.lp.bus with
  | .busOff => { s with lp.errorCount := 0, lp.bus := .onBus }
  | .onBus => s

/-- BUS_OFF_RECOVERY (R195). -/
def execBusOffRecovery (s : State) : Answer := .next (recoverBus s)

end Sys2Proof.Machine
end

