-- ==== Sys2Proof/Machine/StationRequests.lean ====
section
/-!
DEFINITION. The requests of the stations, Join to Release (11.2): what each does once its sender checks have passed, and its
command.
-/

namespace Sys2Proof.Machine

/-! ## Shared parts -/

/-- A refused request changes nothing. -/
def refuse (s : State) (r : Reason) : State × Reply := (s, replyRefused r)

/-- A request answered DONE in one frame. -/
def answerDone (s : State) (r : Result) : State × Reply := (s, replyDone r)

/-- The owner of the record's zone is told that its last hold is gone (R183). -/
def lastHoldCleared (s : State) (t : Tag) : State :=
  match lookup s t with
  | none => s
  | some r =>
    if isHeld r then s
    else if s.zu.intake.head? = some t then routingAttempt s
    else if s.zu.buffer.contains t then selectionAttempt s
    else s

/-- HU removes a hold and tells the zone's owner when it was the last (R183). -/
def clearHold (s : State) (t : Tag) (h : HoldReason) : State := lastHoldCleared (removeHold s t h) t

/-- The record carries a hold reason, by tag. -/
def tagCarries (s : State) (t : Tag) (h : HoldReason) : Bool := (lookup s t).any fun r => carries r h

/-- The stage of a record by tag. -/
def tagStage (s : State) (t : Tag) : Stage := ((lookup s t).map (·.stage)).getD .new

/-- The sender's claim names the record. -/
def ownsClaim (s : State) (n : Node) (t : Tag) : Bool := s.stations[n].claim == some t

/-! ## Join (R53 to R55) -/

/-- Other entries of kind EXTRACT, JOINED, LOST or BARRED, that serve a lane (R53). -/
def othersOnLane (s : State) (n : Node) (l : Lane) : Nat :=
  (allNodes.filter fun m =>
    m != n && s.stations[m].kind == some .extract && s.stations[m].lane == some l && s.stations[m].state != .absent).length

/-- The lane an entry takes: none for INTAKE, and none where an EXTRACT Join names no lane (R53). -/
def joinLane (f : Frame) (k : StationKind) : Option Lane :=
  match k with
  | .intake => none
  | .extract => f.fields.lane

/-- The refusals of a Join, in their order (R53). -/
def joinRefusal (n : Node) (f : Frame) (s : State) : Option Reason :=
  let e := s.stations[n]
  match f.fields.stationKind with
  | none =>
    if s.line.state = .config then some .lineState else if e.state = .barred then some .notPermitted else some .badValue
  | some k =>
    if s.line.state = .config then some .lineState
    else if e.state = .barred then some .notPermitted
    else if k = .extract ∧ f.fields.lane = none then some .badValue
    else if f.fields.offeredOther then some .badValue
    else if e.claim.isSome ∧ ¬(e.kind = some k ∧ e.lane = joinLane f k) then some .notPermitted
    else
      match joinLane f k with
      | some l => if 3 ≤ othersOnLane s n l then some .notPermitted else none
      | none => none

/-- The granted set of a Join (R54). -/
def joinGranted (s : State) (f : Frame) (k : StationKind) : Abilities :=
  let rating := match joinLane f k with | some l => s.cfg.ratings.get l | none => .closed
  grantedSet f.fields.offered k rating

/-- The entry after a Join (R54). -/
def joinedEntry (s : State) (f : Frame) (k : StationKind) (e : StationEntry) : StationEntry :=
  { e with
    state := .joined
    kind := some k
    lane := joinLane f k
    offered := f.fields.offered
    granted := joinGranted s f k }

/-- The entry is JOINED with SNIFF on its lane, and was not so before (R54). -/
def newlySniffs (before after : StationEntry) : Bool :=
  after.lane.any fun l => sniffsOn after l && !sniffsOn before l

/-- What a rejoin does to the claimed record: the station-loss effects from JOINED, STATION_LOST alone otherwise (R55). -/
def rejoinEffects (s : State) (n : Node) (before : StationEntry) : State :=
  match before.claim with
  | none => s
  | some t => if before.state = .joined then stationLoss s n 0 else addHold s t .stationLost 0

/-- Join takes effect (R54, R55). -/
def takeJoin (n : Node) (f : Frame) (k : StationKind) (s : State) : State :=
  let before := s.stations[n]
  let s := updStation s n (joinedEntry s f k)
  let s := startHeartbeat s n
  let s := rejoinEffects s n before
  if newlySniffs before s.stations[n] then routingAttempt s else s

/-- Join (R53 to R55). -/
def joinBody (n : Node) (f : Frame) (s : State) : State × Reply :=
  match joinRefusal n f s, f.fields.stationKind with
  | some r, _ => refuse s r
  | none, none => refuse s .badValue
  | none, some k =>
    let t := takeJoin n f k s
    answerDone t (.joined t.stations[n].granted (claimTag t.stations[n]))

/-- JOIN (R53, R54, R55). -/
def execJoin (s : State) : Answer := .next (request .join (stationBody joinBody) s)

/-! ## Leave and Pulse (R56, R57) -/

/-- The entry after a Leave, and after an Unbar without a claim: ABSENT, with its lost_latch kept (R56, R63). -/
def absentEntry (e : StationEntry) : StationEntry := { StationEntry.initial with lostLatch := e.lostLatch }

/-- Leave (R56). -/
def leaveBody (n : Node) (_ : Frame) (s : State) : State × Reply :=
  if s.stations[n].claim.isSome then refuse s .busy
  else answerDone (updStation (setHeartbeat s n chStopped) n absentEntry) .empty

/-- LEAVE (R56). -/
def execLeave (s : State) : Answer := .next (request .leave (stationBody leaveBody) s)

/-- Pulse (R57). -/
def pulseBody (n : Node) (_ : Frame) (s : State) : State × Reply :=
  answerDone s (.alive s.line.state (claimTag s.stations[n]))

/-- PULSE (R57). -/
def execPulse (s : State) : Answer := .next (request .pulse (stationBody pulseBody) s)

/-! ## Enrol (R13 to R16) -/

/-- A record as it is created, with the fields the creating rules set apart (R16, R205, R206). -/
def newRecord (c : NewCabinet) (now : Clock) : Record where
  tag := c.tag
  enrolledClass := c.cls
  cls := c.cls
  foamClass := c.foamClass
  foamWeight := c.foamWeight
  declaredCharge := c.declaredCharge
  stage := .new
  station := none
  vessel := none
  transfers := 0
  recovered := 0
  verdict := .none
  dwellOverride := c.dwellOverride
  holds := []
  reevacUsed := 0
  skipCount := 0
  enrolStamp := now
  routeStamp := none
  done1Stamp := none
  batch := none
  foamShare := none

/-- A record enters the table and a zone list at its tail. -/
def addRecord (s : State) (r : Record) (p : Place) : State := putTail { s with records := s.records ++ [r] } p r.tag

/-- The line states in which a sender may enrol (R13). -/
def mayEnrol (who : Sender) (l : LineState) : Bool :=
  match who with
  | .station _ => l == .run || l == .stopped
  | .supervisor => l == .run

/-- Enrol (R13 to R16). -/
def enrolBody : Body := fun who f s =>
  if !mayEnrol who s.line.state then refuse s .lineState
  else
    match enrolCabinet f with
    | none => refuse s .badValue
    | some c =>
      if (lookup s c.tag).isSome then refuse s .duplicateTag
      else if !hasFreePlace s .intake then refuse s .zoneFull
      else
        let wasEmpty := s.zu.intake.isEmpty
        let s := addRecord s (newRecord c s.clock) .intake
        let r := Result.enrolled s.zu.intake.length s.records.length
        answerDone (if wasEmpty then routingAttempt s else s) r

/-- ENROL (R13 to R16). -/
def execEnrol (s : State) : Answer := .next (request .enrol enrolBody s)

/-! ## Look (R18) -/

/-- The two parts of a Look answer. -/
def lookReply (s : State) (r : Record) : Reply :=
  replyParts (.lookPlace r.tag r.stage (placeOf s r.tag))
    [.lookDetail (nodeCode r.station) r.cls r.verdict (holdMarks r) (effectiveDwell s r)]

/-- Look (R18). -/
def lookBody : Body := fun _ f s =>
  match lookup s f.fields.tag with
  | none => refuse s .unknownTag
  | some r => (s, lookReply s r)

/-- LOOK (R18). -/
def execLook (s : State) : Answer := .next (request .look lookBody s)

/-! ## Claim Next (R64, R65) -/

/-- The first record of a lane that carries no hold and whose class the entry covers (R65). -/
def claimable (s : State) (e : StationEntry) (l : Lane) : Option Record :=
  (s.zu.lanes.get l).findSome? fun t => (lookup s t).filter fun r => !isHeld r && covers e.granted r.cls

/-- Claim Next (R64, R65). -/
def claimNextBody (n : Node) (_ : Frame) (s : State) : State × Reply :=
  let e := s.stations[n]
  if s.line.state ≠ .run then refuse s .lineState
  else if e.claim.isSome then refuse s .busy
  else
    match e.lane with
    | none => refuse s .noneAvailable
    | some l =>
      match claimable s e l with
      | none => refuse s .noneAvailable
      | some r => answerDone (takeClaim s n l r) (.claimed r.tag r.cls)

/-- CLAIM_NEXT (R65). -/
def execClaimNext (s : State) : Answer := .next (request .claimNext (stationBody claimNextBody) s)

/-! ## Reclaim (R66, R205) -/

/-- CLASS_CONFLICT is raised where the station does not cover the record's class (R66, R68, R205, R206). -/
def judgeCoverage (s : State) (n : Node) (t : Tag) (c : Class) : State :=
  if covers s.stations[n].granted c then s else raiseHold s t .classConflict 0

/-- The stage, verdict and done1_stamp of a record that a Reclaim creates (R205). -/
def reclaimedRecord (c : NewCabinet) (n : Node) (done : Bool) (now : Clock) : Record :=
  let r := { newRecord c now with station := some n }
  if c.cls = .n then { r with stage := .done1, verdict := .empty, done1Stamp := some now }
  else if done then { r with stage := .done1, verdict := .unmeasured, done1Stamp := some now }
  else { r with stage := .claimed }

/-- The answer of a Reclaim: the stage and the conflict mark (R66). -/
def reclaimReply (s : State) (t : Tag) : State × Reply :=
  answerDone s (.reclaimed (tagStage s t) (tagCarries s t .classConflict))

/-- A Reclaim that creates a record (R205). -/
def reclaimCreate (n : Node) (f : Frame) (s : State) : State × Reply :=
  match f.fields.cabinet with
  | none => refuse s .badValue
  | some w =>
    match checkCabinet f.fields.tag w.classCode w.foamCode w.charge none with
    | none => refuse s .badValue
    | some c =>
      if s.stations[n].claim.isSome then refuse s .busy
      else
        let s := addRecord s (reclaimedRecord c n f.fields.doneMark s.clock) (.station n)
        reclaimReply (judgeCoverage s n c.tag c.cls) c.tag

/-- Reclaim (R66). -/
def reclaimBody (n : Node) (f : Frame) (s : State) : State × Reply :=
  if s.line.state = .config then refuse s .lineState
  else
    match lookup s f.fields.tag with
    | none => if s.line.state = .reconcile then reclaimCreate n f s else refuse s .unknownTag
    | some r =>
      if r.station ≠ some n then refuse s .notPermitted
      else
        let s := if carries r .stationLost then clearHold s r.tag .stationLost else s
        reclaimReply (judgeCoverage s n r.tag r.cls) r.tag

/-- RECLAIM (R66, R205). -/
def execReclaim (s : State) : Answer := .next (request .reclaim (stationBody reclaimBody) s)

/-! ## Class Found (R67, R68) -/

/-- The class a finding names: H, F or N (R67). -/
def foundClass (code : Nat) : Option Class :=
  match classOfCode code with
  | some .u => none
  | c => c

/-- A Class Found takes effect (R68). -/
def takeFinding (s : State) (n : Node) (t : Tag) (c : Class) : State :=
  let s := updRecord s t fun r => { r with cls := c }
  if covers s.stations[n].granted c then
    let s := if tagCarries s t .classConflict then clearHold s t .classConflict else s
    if c = .n then enterDone1Empty s t else s
  else raiseHold s t .classConflict 0

/-- Class Found (R67, R68). -/
def classFoundBody (n : Node) (f : Frame) (s : State) : State × Reply :=
  let t := f.fields.tag
  if s.line.state = .config then refuse s .lineState
  else
    match foundClass f.fields.classCode with
    | none => refuse s .badValue
    | some c =>
      match lookup s t with
      | none => refuse s .unknownTag
      | some r =>
        if !ownsClaim s n t then refuse s .notPermitted
        else if r.stage ≠ .claimed ∨ r.transfers ≠ 0 then refuse s .badStage
        else if (boundVessel s t).isSome then refuse s .busy
        else
          let s := takeFinding s n t c
          answerDone s (.classFound c (tagStage s t) (tagCarries s t .classConflict))

/-- CLASS_FOUND (R67, R68). -/
def execClassFound (s : State) : Answer := .next (request .classFound (stationBody classFoundBody) s)

/-! ## Inlet Request and Re-evacuate (R89, R99) -/

/-- The record becomes WAIT_INLET, its entry joins the tail of its class queue, and a grant attempt follows (R89, R99, R111).
The position is the one at which the entry joined. -/
def queueInlet (s : State) (n : Node) (t : Tag) (c : Stream) : State × Reply :=
  let s := joinQueue (setStage s t .waitInlet) c ⟨n, t⟩
  (grantAttempt s c, replyQueued (.inlet c (inletQueue s c).length))

/-- Inlet Request (R89). -/
def inletRequestBody (n : Node) (f : Frame) (s : State) : State × Reply :=
  let t := f.fields.tag
  if s.line.state ≠ .run then refuse s .lineState
  else
    match lookup s t with
    | none => refuse s .unknownTag
    | some r =>
      if !ownsClaim s n t then refuse s .notPermitted
      else if r.stage ≠ .claimed then refuse s .badStage
      else if isHeld r then refuse s .notEligible
      else
        match streamOf r.cls with
        | none => refuse s .notEligible
        | some c => if (boundVessel s t).isSome then refuse s .busy else queueInlet s n t c

/-- INLET_REQUEST (R89). -/
def execInletRequest (s : State) : Answer := .next (request .inletRequest (stationBody inletRequestBody) s)

/-- Re-evacuate (R99). -/
def reEvacuateBody (n : Node) (f : Frame) (s : State) : State × Reply :=
  let t := f.fields.tag
  if s.line.state ≠ .run then refuse s .lineState
  else
    match lookup s t with
    | none => refuse s .unknownTag
    | some r =>
      if !ownsClaim s n t then refuse s .notPermitted
      else if r.stage ≠ .vacuumHold ∧ r.stage ≠ .claimed then refuse s .badStage
      else if !carries r .leak then refuse s .badStage
      else if r.holds.any (·.reason != .leak) then refuse s .notEligible
      else if (boundVessel s t).isSome then refuse s .busy
      else if s.cfg.reevacMax ≤ r.reevacUsed then refuse s .notPermitted
      else
        match streamOf r.cls with
        | none => refuse s .notEligible
        | some c =>
          let s := updRecord s t fun r => { r with reevacUsed := r.reevacUsed + 1 }
          queueInlet (clearHold s t .leak) n t c

/-- RE_EVACUATE (R99). -/
def execReEvacuate (s : State) : Answer := .next (request .reEvacuate (stationBody reEvacuateBody) s)

/-! ## Pressure (R94, R95) -/

/-- The pressure as it is stored (R94). -/
def clampPressure (pa : Nat) : Nat := min pa 200000

/-- A report takes effect at the station entry and at the progress entry (R94, R95). -/
def takeReport (s : State) (n : Node) (pa : Nat) : State :=
  let s := updStation s n fun e => { e with latestPressure := some (pa, s.clock) }
  updProgress s n fun p => countReport p pa s.clock

/-- Pressure (R94, R95). -/
def pressureBody (n : Node) (f : Frame) (s : State) : State × Reply :=
  match lookup s f.fields.tag with
  | none => refuse s .unknownTag
  | some _ =>
    if !ownsClaim s n f.fields.tag then refuse s .notPermitted
    else
      let pa := clampPressure f.fields.pressure
      let s := takeReport s n pa
      answerDone s (.pressure pa s.progress[n].state)

/-- PRESSURE (R94). -/
def execPressure (s : State) : Answer := .next (request .pressure (stationBody pressureBody) s)

/-! ## Release (R41, R42) -/

/-- Release (R41, R42). -/
def releaseBody (n : Node) (f : Frame) (s : State) : State × Reply :=
  let t := f.fields.tag
  if s.line.state ≠ .run then refuse s .lineState
  else
    match lookup s t with
    | none => refuse s .unknownTag
    | some r =>
      if !ownsClaim s n t then refuse s .notPermitted
      else if r.stage ≠ .done1 then refuse s .badStage
      else if isHeld r then refuse s .notEligible
      else if !hasFreePlace s .buffer then refuse s .zoneFull
      else
        let s := putTail (leavePosition s n t) .buffer t
        answerDone (selectionAttempt s) (.occupancy s.zu.buffer.length)

/-- RELEASE (R41, R42). -/
def execRelease (s : State) : Answer := .next (request .release (stationBody releaseBody) s)

end Sys2Proof.Machine
end

