-- ==== Sys2Proof/Machine/Reports.lean ====
section
/-!
DEFINITION. The requests that report and change nothing, or clear only a latch: Config Read, Record Read, Zone Read, Station,
Vessel, Sensor and Chamber Status.
-/

namespace Sys2Proof.Machine

/-! ## Config Read (R203) -/

/-- Config Read (R203). -/
def configReadBody (f : Frame) (s : State) : State × Reply :=
  match f.fields.item.bind (readResult s) with
  | none => refuse s .badValue
  | some r => answerDone s r

/-- CONFIG_READ (R203). -/
def execConfigRead (s : State) : Answer := .next (request .configRead (supervisorBody configReadBody) s)

/-! ## Record Read (R19, R199) -/

/-- A number of two bytes, most significant first. -/
def bytes2 (n : Nat) : List Byte := [byteOf (n / 256), byteOf n]

/-- A number of four bytes, most significant first. -/
def bytes4 (n : Nat) : List Byte := bytes2 (n / 65536) ++ bytes2 n

/-- The place as Record Read carries it: zone code, and the node of the position for STATION. -/
def placeBytes : Option Place → List Byte
  | none => [0, 0]
  | some (.station n) => [byteOf (placeCode (.station n)), byteOf (nodeNumber n)]
  | some p => [byteOf (placeCode p), 0]

/-- The effective dwell with its mark in bit 15 (R199). -/
def dwellWord (s : State) (r : Record) : Nat := effectiveDwell s r + (if r.dwellOverride.isSome then 32768 else 0)

/-- Part 0: after the head, the tag and the classes. -/
def recordPart0 (r : Record) : List Byte :=
  bytes4 r.tag.toNat ++ [byteOf (classCode r.enrolledClass * 64 + classCode r.cls * 16 + foamCode r.foamClass * 4)]

/-- Part 1. -/
def recordPart1 (s : State) (r : Record) : List Byte :=
  [byteOf r.foamWeight] ++ bytes2 (r.declaredCharge.getD 0) ++ [byteOf (stageCode r.stage)] ++ placeBytes (placeOf s r.tag)
    ++ [byteOf (nodeCode r.station), match r.vessel with | some v => byteOf (128 + v.val) | none => 0]

/-- Part 2. -/
def recordPart2 (s : State) (r : Record) : List Byte :=
  [byteOf r.transfers, byteOf r.reevacUsed, byteOf r.skipCount] ++ bytes2 r.recovered ++ [byteOf (verdictCode r.verdict)]
    ++ bytes2 (dwellWord s r)

/-- Part 3. -/
def recordPart3 (s : State) (r : Record) : List Byte :=
  [holdMarks r] ++ bytes2 (r.batch.getD 0) ++ bytes2 (r.foamShare.getD 0) ++ [if r.foamShare.isSome then 128 else 0]
    ++ bytes2 (ageSeconds s.clock r.enrolStamp 65534)

/-- Part 4. -/
def recordPart4 (s : State) (r : Record) : List Byte :=
  bytes2 (optAgeSeconds s.clock r.routeStamp) ++ bytes2 (optAgeSeconds s.clock r.done1Stamp) ++ [0, 0, 0, 0]

/-- The five parts of a Record Read answer (R199). -/
def recordReply (s : State) (r : Record) : Reply :=
  replyParts (.bytes (recordPart0 r))
    [.bytes (recordPart1 s r), .bytes (recordPart2 s r), .bytes (recordPart3 s r), .bytes (recordPart4 s r)]

/-- Record Read (R19). -/
def recordReadBody (f : Frame) (s : State) : State × Reply :=
  match lookup s f.fields.tag with
  | none => refuse s .unknownTag
  | some r => (s, recordReply s r)

/-- RECORD_READ (R19). -/
def execRecordRead (s : State) : Answer := .next (request .recordRead (supervisorBody recordReadBody) s)

/-! ## Zone Read (R49) -/

/-- The place a Zone Read names: STATION needs a node whose entry is of kind EXTRACT (R49). -/
def namedPlace (s : State) (zoneCode node : Nat) : Option Place :=
  match zoneOfCode zoneCode with
  | none => none
  | some .intake => some .intake
  | some (.lane l) => some (.lane l)
  | some .station => (nodeOf node).bind fun n => if s.stations[n].kind = some .extract then some (.station n) else none
  | some .buffer => some .buffer
  | some .chamber => some .chamber
  | some .exit => some .exit

/-- The record at a position, as Zone Read gives it. -/
def zoneSlot (s : State) (p : Place) (k : Nat) : Option ZoneSlot :=
  ((zoneList s p)[k]?.bind (lookup s)).map fun r => ⟨r.tag, r.stage, isHeld r⟩

/-- The three parts of a Zone Read answer. -/
def zoneReply (s : State) (p : Place) (k : Nat) : Reply :=
  replyParts
    (.zone p (zoneList s p).length (capacity s p) (hasReserved s p) ((gateInto p).map fun g => (s.zu.gates.get g).state))
    [.zoneSlot (zoneSlot s p k), .zoneSlot (zoneSlot s p (k + 1))]

/-- Zone Read (R49). -/
def zoneReadBody (f : Frame) (s : State) : State × Reply :=
  match namedPlace s f.fields.zoneCode f.fields.node with
  | none => refuse s .badValue
  | some p => if capacity s p ≤ f.fields.position then refuse s .badValue else (s, zoneReply s p f.fields.position)

/-- ZONE_READ (R49). -/
def execZoneRead (s : State) : Answer := .next (request .zoneRead (supervisorBody zoneReadBody) s)

/-! ## Station Status (R69) -/

/-- The three parts of a Station Status answer. -/
def stationReply (s : State) (n : Node) : Reply :=
  let e := s.stations[n]
  replyParts (.stationEntry e.state e.kind e.lane e.offered e.granted e.lostLatch)
    [.stationClaim (claimTag e) ((e.claim.bind (lookup s)).map fun r => (r.stage, isHeld r)),
     .stationPressure ((e.latestPressure.map (·.1)).getD 0) (optAgeSeconds s.clock (e.latestPressure.map (·.2)))]

/-- Station Status: lost_latch is cleared after the answer is composed (R69). -/
def stationStatusBody (f : Frame) (s : State) : State × Reply :=
  match nodeOf f.fields.node with
  | none => refuse s .badValue
  | some n => (updStation s n fun e => { e with lostLatch := false }, stationReply s n)

/-- STATION_STATUS (R69). -/
def execStationStatus (s : State) : Answer := .next (request .stationStatus (supervisorBody stationStatusBody) s)

/-! ## Vessel Status (R123) -/

/-- The remaining settle time in milliseconds, 0 unless SETTLING. -/
def settleRemaining (s : State) (v : VesselIx) : Nat :=
  if s.vu.vessels[v].state = .settling then remainingMs s.clock s.tu.settle[v] else 0

/-- The three parts of a Vessel Status answer. -/
def vesselReply (s : State) (v : VesselIx) : Reply :=
  let x := s.vu.vessels[v]
  let q := inletQueue s x.streamClass
  replyParts
    (.vesselEntry x.state x.streamClass x.faultCause ((x.bound.map (·.1)).getD 0) (nodeCode (x.bound.map (·.2)))
      (settleRemaining s v))
    [.vesselFill x.capacityG (fillLimit x) x.tareG x.netG (fillPerMille x),
     .vesselQueue x.bookedTotalG x.baselineGross q.length (nodeCode (q.head?.map (·.node))) ((q.head?.map (·.tag)).getD 0)]

/-- Vessel Status (R123). -/
def vesselStatusBody (f : Frame) (s : State) : State × Reply :=
  match vesselOfIndex f.fields.index with
  | none => refuse s .badValue
  | some v => (s, vesselReply s v)

/-- VESSEL_STATUS (R123). -/
def execVesselStatus (s : State) : Answer := .next (request .vesselStatus (supervisorBody vesselStatusBody) s)

/-! ## Sensor Status (R153) -/

/-- Part 2: the thresholds, or the scale constants of a SCALE entry. -/
def sensorPart2 (e : Sensor) : Result :=
  if hasLimits e then .sensorLimits e.thresholds.1 e.thresholds.2 else .sensorScale e.zero e.span

/-- The three parts of a Sensor Status answer. -/
def sensorReply (s : State) (i : SensorIx) : Reply :=
  let e := s.sn.sensors[i]
  replyParts (.sensorEntry i e.enabled e.kind e.address e.sampleIndex e.state e.faultLatch e.failCount e.goodCount)
    [.sensorLatest (e.latest.map (·.1)) e.stale e.saturated (optAgeMs s.clock (e.latest.map (·.2))), sensorPart2 e]

/-- Sensor Status: fault_latch is cleared after the answer is composed (R153). -/
def sensorStatusBody (f : Frame) (s : State) : State × Reply :=
  match sensorOfIndex f.fields.index with
  | none => refuse s .badValue
  | some i => (updSensor s i fun e => { e with faultLatch := false }, sensorReply s i)

/-- SENSOR_STATUS (R153). -/
def execSensorStatus (s : State) : Answer := .next (request .sensorStatus (supervisorBody sensorStatusBody) s)

/-! ## Chamber Status (R176) -/

/-- The four parts of a Chamber Status answer. The baseline is reported as it is held, PRESENT with its gross (assumption 39). -/
def chamberReply (s : State) : Reply :=
  replyParts
    (.chamberPhase s.cs.phase s.cs.step (reportedRun s.tu.phase) (remainingMs s.clock s.tu.phase / 1000)
      (remainingMs s.clock s.tu.pause / 1000) s.cs.shredDone s.cs.loadExpired)
    [.chamberBatch (batchNumber s) s.cs.batchList.length s.cs.ffCount s.cs.commitMark (doorClosed s),
     .chamberGas (effectiveLel s) (latestO2 s) (o2Unusable s) (latestTrap s) (!trapUsable s) (gasFailed s)
       s.cs.outputs.shredDrive,
     .chamberNitrogen s.tu.pwm.staged s.tu.pwm.applied s.cs.baseline s.cs.total]

/-- Chamber Status (R176). -/
def chamberStatusBody (_ : Frame) (s : State) : State × Reply := (s, chamberReply s)

/-- CHAMBER_STATUS (R176). -/
def execChamberStatus (s : State) : Answer := .next (request .chamberStatus (supervisorBody chamberStatusBody) s)

end Sys2Proof.Machine
end

