-- ==== Sys2Proof/Machine/SupervisorRequests.lean ====
section
/-!
DEFINITION. The supervisor's requests that act on records, stations, vessels, gates, the recipe and the chamber (chapters 01, 02,
03, 06, 09, 10) and Config Write.
-/

namespace Sys2Proof.Machine

/-! ## Config Write, Recipe Write, Recipe Commit (R202, R158, R159) -/

/-- Config Write (R202). -/
def configWriteBody (f : Frame) (s : State) : State × Reply :=
  match f.fields.item with
  | some (.config i) =>
    match writeItem s i f.fields.value with
    | .ok (t, v) => answerDone t (.stored v)
    | .error r => refuse s r
  | _ => refuse s .badValue

/-- CONFIG_WRITE (R202). -/
def execConfigWrite (s : State) : Answer := .next (request .configWrite (supervisorBody configWriteBody) s)

/-- Recipe Write: the staged recipe is changed and the commit mark cleared (R158). -/
def recipeWriteBody (f : Frame) (s : State) : State × Reply :=
  match f.fields.recipeItem.bind fun i => withRecipeItem s.cs.staged i f.fields.value with
  | some (r, v) => answerDone { s with cs.staged := r, cs.commitMark := false } (.stored v)
  | none => refuse s .badValue

/-- RECIPE_WRITE (R158). -/
def execRecipeWrite (s : State) : Answer := .next (request .recipeWrite (supervisorBody recipeWriteBody) s)

/-- Recipe Commit: the mark is set, or left clear with the first failing condition (R159). -/
def recipeCommitBody (_ : Frame) (s : State) : State × Reply :=
  match commitFailure s.cs.staged with
  | none => answerDone { s with cs.commitMark := true } .empty
  | some c => ({ s with cs.commitMark := false }, { replyRefused .badValue with first := .commitFailed c })

/-- RECIPE_COMMIT (R159). -/
def execRecipeCommit (s : State) : Answer := .next (request .recipeCommit (supervisorBody recipeCommitBody) s)

/-! ## Hold and Clear Hold (R179 to R183) -/

/-- Hold (R179). -/
def holdBody (f : Frame) (s : State) : State × Reply :=
  let t := f.fields.tag
  match lookup s t with
  | none => refuse s .unknownTag
  | some r =>
    if inPassage s t then refuse s .busy
    else
      let s := raiseHold s t .manual supervisorNode
      answerDone s (.held (tagStage s t) (carries r .manual))

/-- HOLD (R179). -/
def execHold (s : State) : Answer := .next (request .hold (supervisorBody holdBody) s)

/-- The station position that holds a record. -/
def atStation (s : State) (t : Tag) : Option Node :=
  match placeOf s t with
  | some (.station n) => some n
  | _ => none

/-- The refusals of a Clear Hold of STATION_LOST on a record that carries it (R181). R40 gives BUSY and ZONE_FULL no order: BUSY
is tested first (assumption 34). -/
def stationLostRefusal (s : State) (t : Tag) : Option Reason :=
  match atStation s t with
  | none => none
  | some n =>
    if s.stations[n].state = .joined then some .badStage
    else if (boundVessel s t).isSome then some .busy
    else if s.stations[n].lane.any fun l => !hasFreePlace s (.lane l) then some .zoneFull
    else none

/-- The record stands at a station whose entry does not cover its class (R182). -/
def conflictStands (s : State) (r : Record) : Bool :=
  (atStation s r.tag).any fun n => !covers s.stations[n].granted r.cls

/-- The reason-specific checks of R180: those of R181 for a record that carries STATION_LOST, that of R182 whether or not the
record carries CLASS_CONFLICT (assumption 31). -/
def reasonRefusal (s : State) (r : Record) (h : HoldReason) : Option Reason :=
  match h with
  | .stationLost => if carries r .stationLost then stationLostRefusal s r.tag else none
  | .classConflict => if conflictStands s r then some .notEligible else none
  | _ => none

/-- The removal of STATION_LOST (R181, R40): the claim of a LOST or BARRED station is returned to its lane's head. -/
def clearStationLost (s : State) (t : Tag) : State :=
  match (atStation s t).bind fun n => s.stations[n].lane.map fun l => (n, l) with
  | some (n, l) => lastHoldCleared (returnClaim (removeHold s t .stationLost) n l t) t
  | none => clearHold s t .stationLost

/-- The removal of a reason that the record carries, with its effects (R180, R181, R183, R100). -/
def clearReason (s : State) (t : Tag) (h : HoldReason) : State :=
  match h with
  | .stationLost => clearStationLost s t
  | .leak => acceptLeak (clearHold s t .leak) t
  | h => clearHold s t h

/-- The stage and the hold set of a record after a Clear Hold. -/
def tagMarks (s : State) (t : Tag) : HoldMarks := ((lookup s t).map holdMarks).getD 0

/-- Clear Hold (R180). -/
def clearHoldBody (f : Frame) (s : State) : State × Reply :=
  let t := f.fields.tag
  match holdReasonOfCode f.fields.reasonCode with
  | none => refuse s .badValue
  | some h =>
    match lookup s t with
    | none => refuse s .unknownTag
    | some r =>
      if h = .chamberAbort then refuse s .notPermitted
      else
        match reasonRefusal s r h with
        | some why => refuse s why
        | none =>
          match r.holds.find? (·.reason == h) with
          | none => answerDone s (.cleared false r.stage (holdMarks r) 0 0)
          | some e =>
            let u := clearReason s t h
            answerDone u (.cleared true (tagStage u t) (tagMarks u t) e.raisedBy (ageSeconds s.clock e.raisedAt 65534))

/-- CLEAR_HOLD (R180). -/
def execClearHold (s : State) : Answer := .next (request .clearHold (supervisorBody clearHoldBody) s)

/-! ## Dispose, Retire, Override (R184, R185, R21, R20) -/

/-- The refusals of a Dispose, in their order (R184). -/
def disposeRefusal (s : State) (r : Record) : Option Reason :=
  let p := placeOf s r.tag
  if p = some .chamber ∨ p = some .exit then some .badStage
  else if inPassage s r.tag then some .busy
  else if r.stage = .evacuating ∨ (boundVessel s r.tag).isSome then some .busy
  else if !hasFreePlace s .exit then some .zoneFull
  else none

/-- What a disposal from a station position undoes there (R185, steps 2 and 4). -/
def leaveStation (s : State) (n : Node) (t : Tag) : State :=
  let s := leavePosition s n t
  match s.progress[n].state with
  | .holdWait | .holdOpen | .holdStopped => discardProgress s n
  | _ => s

/-- The disposal of a record (R185). -/
def disposeRecord (s : State) (t : Tag) : State :=
  let from_ := placeOf s t
  let wasHead := s.zu.intake.head? == some t
  let s := match from_ with
    | some (.station n) => leaveStation s n t
    | some p => takeOut s p t
    | none => s
  let s := setStage (putTail (leaveQueues s t) .exit t) t .rejected
  match from_ with
  | some .intake => if wasHead then routingAttempt s else s
  | some (.lane _) => routingAttempt s
  | some .buffer => selectionAttempt s
  | _ => s

/-- Dispose (R184, R185). -/
def disposeBody (f : Frame) (s : State) : State × Reply :=
  let t := f.fields.tag
  match lookup s t with
  | none => refuse s .unknownTag
  | some r =>
    match disposeRefusal s r with
    | some why => refuse s why
    | none =>
      let s := disposeRecord s t
      answerDone s (.occupancy s.zu.exit.length)

/-- DISPOSE (R184, R185). -/
def execDispose (s : State) : Answer := .next (request .dispose (supervisorBody disposeBody) s)

/-- Retire (R21, R22). -/
def retireBody (f : Frame) (s : State) : State × Reply :=
  let t := f.fields.tag
  match lookup s t with
  | none => refuse s .unknownTag
  | some _ =>
    if placeOf s t = some .exit then
      let s := retireRecord s .exit t
      answerDone s (.occupancy s.zu.exit.length)
    else refuse s .badStage

/-- RETIRE (R21). -/
def execRetire (s : State) : Answer := .next (request .retire (supervisorBody retireBody) s)

/-- The dwell override a request stores: 0 removes it (R20). -/
def overrideOf (seconds : Nat) : Option Nat := if seconds = 0 then none else some (clampNat 10 600 seconds)

/-- Override (R20). -/
def overrideBody (f : Frame) (s : State) : State × Reply :=
  let t := f.fields.tag
  match lookup s t with
  | none => refuse s .unknownTag
  | some r =>
    if r.stage = .done1 ∨ r.stage = .batched ∨ r.stage = .rejected then refuse s .badStage
    else
      let r' := { r with dwellOverride := overrideOf f.fields.seconds }
      answerDone (updRecord s t fun x => { x with dwellOverride := overrideOf f.fields.seconds })
        (.dwell (effectiveDwell s r'))

/-- OVERRIDE (R20). -/
def execOverride (s : State) : Answer := .next (request .override (supervisorBody overrideBody) s)

/-! ## Vessel Online and Vessel Offline (R108, R109) -/

/-- Another vessel that is not OFFLINE names the same scale (R108). -/
def scaleTaken (s : State) (v : VesselIx) : Bool :=
  allVessels.any fun w =>
    w != v && s.vu.vessels[w].state != .offline && s.vu.vessels[w].scaleSensor == s.vu.vessels[v].scaleSensor

/-- The refusals of a Vessel Online after its index check, in their order (R108). -/
def onlineRefusal (s : State) (v : VesselIx) (tare : Nat) : Option Reason :=
  let e := s.sn.sensors[s.vu.vessels[v].scaleSensor]
  if s.vu.vessels[v].state ≠ .offline then some .badStage
  else if 262140 < tare then some .badValue
  else if ¬(e.enabled = true ∧ e.kind = .scale) then some .badValue
  else if scaleTaken s v then some .badValue
  else none

/-- The vessel after a Vessel Online (R108). -/
def onlineVessel (tare : Nat) (x : Vessel) : Vessel :=
  { x with
    tareG := tare
    bookedTotalG := 0
    netG := none
    baselineGross := none
    faultCause := none
    state := .idle }

/-- Vessel Online (R108). -/
def vesselOnlineBody (f : Frame) (s : State) : State × Reply :=
  match vesselOfIndex f.fields.index with
  | none => refuse s .badValue
  | some v =>
    match onlineRefusal s v f.fields.tare with
    | some why => refuse s why
    | none =>
      let s := updVessel s v (onlineVessel f.fields.tare)
      let x := s.vu.vessels[v]
      answerDone (grantAttempt s x.streamClass) (.vesselOnline v x.streamClass (fillLimit x))

/-- VESSEL_ONLINE (R108). -/
def execVesselOnline (s : State) : Answer := .next (request .vesselOnline (supervisorBody vesselOnlineBody) s)

/-- Vessel Offline (R109). -/
def vesselOfflineBody (f : Frame) (s : State) : State × Reply :=
  match vesselOfIndex f.fields.index with
  | none => refuse s .badValue
  | some v =>
    match s.vu.vessels[v].state with
    | .offline => answerDone s .empty
    | .idle | .full | .fault =>
      answerDone (updVessel s v fun x => { x with state := .offline, netG := none, faultCause := none }) .empty
    | _ => refuse s .busy

/-- VESSEL_OFFLINE (R109). -/
def execVesselOffline (s : State) : Answer := .next (request .vesselOffline (supervisorBody vesselOfflineBody) s)

/-! ## Bar and Unbar (R62, R63) -/

/-- A node is barred (R62). -/
def barNode (s : State) (n : Node) : State :=
  match s.stations[n].state with
  | .barred => s
  | .absent => updStation s n fun e => { e with state := .barred }
  | .joined => stationLoss (updStation (setHeartbeat s n chStopped) n fun e => { e with state := .barred }) n supervisorNode
  | .lost => stationLoss (updStation s n fun e => { e with state := .barred }) n supervisorNode

/-- Bar (R62). -/
def barBody (f : Frame) (s : State) : State × Reply :=
  match nodeOf f.fields.node with
  | none => refuse s .badValue
  | some n => answerDone (barNode s n) .empty

/-- BAR (R62). -/
def execBar (s : State) : Answer := .next (request .bar (supervisorBody barBody) s)

/-- The entry after an Unbar: LOST with a claim, ABSENT without (R63). -/
def unbarredEntry (e : StationEntry) : StationEntry :=
  if e.claim.isSome then { e with state := .lost } else absentEntry e

/-- Unbar (R63). -/
def unbarBody (f : Frame) (s : State) : State × Reply :=
  match nodeOf f.fields.node with
  | none => refuse s .badValue
  | some n =>
    if s.stations[n].state ≠ .barred then refuse s .badStage else answerDone (updStation s n unbarredEntry) .empty

/-- UNBAR (R63). -/
def execUnbar (s : State) : Answer := .next (request .unbar (supervisorBody unbarBody) s)

/-! ## Gate Clear (R36) -/

/-- A BLOCKED gate is returned to IDLE, and routing or CS goes on (R36). -/
def unblockGate (s : State) (g : Gate) : State :=
  let s := setGate s g .initial
  match g with
  | .lane _ => routingAttempt s
  | .feed => selectionAttempt s

/-- Gate Clear (R36). -/
def gateClearBody (f : Frame) (s : State) : State × Reply :=
  match gateOfIndex f.fields.index with
  | none => refuse s .badValue
  | some g =>
    match (s.zu.gates.get g).state with
    | .idle => answerDone s .empty
    | .released => refuse s .busy
    | .blocked => answerDone (unblockGate s g) .empty

/-- GATE_CLEAR (R36). -/
def execGateClear (s : State) : Answer := .next (request .gateClear (supervisorBody gateClearBody) s)

/-! ## Chamber Restart and Chamber Clear (R172, R173) -/

/-- Chamber Restart (R172). -/
def chamberRestartBody (_ : Frame) (s : State) : State × Reply :=
  if s.line.state ≠ .run then refuse s .lineState
  else if s.cs.phase ≠ .aborted then refuse s .badStage
  else if !doorClosed s then refuse s .badStage
  else answerDone (restartChamber s) .empty

/-- CHAMBER_RESTART (R172). -/
def execChamberRestart (s : State) : Answer := .next (request .chamberRestart (supervisorBody chamberRestartBody) s)

/-- Chamber Clear (R173). -/
def chamberClearBody (_ : Frame) (s : State) : State × Reply :=
  if s.line.state ≠ .run then refuse s .lineState
  else if s.cs.phase ≠ .aborted then refuse s .badStage
  else answerDone (clearChamber s) .empty

/-- CHAMBER_CLEAR (R173). -/
def execChamberClear (s : State) : Answer := .next (request .chamberClear (supervisorBody chamberClearBody) s)

end Sys2Proof.Machine
end

