-- ==== Sys2Proof/Machine/LineControl.lean ====
section
/-!
DEFINITION. The line state (chapter 12): its changes to RUN and to STOPPED, Line Start, Line Open, Line Resume, Line Reset, Adopt,
the reconcile window, and power-on.
-/

namespace Sys2Proof.Machine

/-! ## Changes of line state -/

/-- The line state becomes RUN: EC restarts its stopped windows, CS leaves IDLE or SAFE, VU makes a grant attempt for each
class, ZU a routing attempt (R204, R207). -/
def enterRun (s : State) : State :=
  let s := { s with line.state := .run }
  let s := allNodes.foldl resumeWindow s
  routingAttempt (grantBoth (chamberRun s))

/-- The line state becomes STOPPED on an emergency stop (R37, R102, R121, R174). -/
def enterStopped (s : State) : State :=
  let s := { s with line.state := .stopped }
  chamberStopped (transfersStopped (abandonPassages s))

/-- An accepted change of the emergency-stop input, with the filtered level already changed (R78, R84, R201). -/
def estopChanged (s : State) : State :=
  if s.tu.estop.filtered then
    let s := freezeChamberChannels { s with line.estopActive := true }
    if s.line.state = .run then enterStopped s else s
  else { s with line.estopActive := false }

/-! ## Line Start, Line Open, Line Resume (R204, R207) -/

/-- Line Start (R204). -/
def lineStartBody (_ : Frame) (s : State) : State × Reply :=
  if s.line.state ≠ .config ∨ s.line.estopActive = true then refuse s .lineState
  else
    answerDone
      { s with
        tu.reconcile := chStart (s.clock + sec s.cfg.reconcileWindow)
        line := { s.line with state := .reconcile, windowExpired := false } }
      (.reconcileWindow s.cfg.reconcileWindow)

/-- LINE_START (R204). -/
def execLineStart (s : State) : Answer := .next (request .lineStart (supervisorBody lineStartBody) s)

/-- Line Open (R204). -/
def lineOpenBody (_ : Frame) (s : State) : State × Reply :=
  if s.line.state ≠ .reconcile ∨ s.line.estopActive = true then refuse s .lineState
  else answerDone (enterRun { s with tu.reconcile := chStopped }) .empty

/-- LINE_OPEN (R204). -/
def execLineOpen (s : State) : Answer := .next (request .lineOpen (supervisorBody lineOpenBody) s)

/-- Line Resume (R207). -/
def lineResumeBody (_ : Frame) (s : State) : State × Reply :=
  if s.line.state ≠ .stopped ∨ s.line.estopActive = true then refuse s .lineState
  else answerDone (enterRun s) .empty

/-- LINE_RESUME (R207). -/
def execLineResume (s : State) : Answer := .next (request .lineResume (supervisorBody lineResumeBody) s)

/-- The expiry of the reconcile channel (R204). -/
def reconcileExpired (s : State) : State :=
  if s.line.state = .reconcile then
    if s.line.estopActive then { s with line.windowExpired := true } else enterRun s
  else s

/-- RECONCILE_EXPIRY (R204). -/
def execReconcileExpiry (s : State) : Answer :=
  .next <|
    match chDue s.clock s.tu.reconcile with
    | some (_, c) => reconcileExpired { s with tu.reconcile := c }
    | none => s

/-! ## Line Reset (R196, R208 and the rule of each block) -/

/-- LP's queues are emptied. A frame in transmission ends on the bus as an orphan; the error count and the bus state are kept
(R196, assumption 24). -/
def portReset (p : LinePort) : LinePort :=
  { p with
    requests := []
    answers := []
    notices := []
    noticeParts := 0
    sending := p.sending.map fun x => { x with side := .orphan }
    prefer := .transmit }

/-- A vessel at Line Reset: OFFLINE, the configuration and the tare kept (R106, R122). -/
def vesselReset (x : Vessel) : Vessel :=
  { x with
    state := .offline
    netG := none
    bookedTotalG := 0
    bound := none
    baselineGross := none
    faultCause := none
    valve := false }

/-- TU at Line Reset: channels, counters and generator at rest, the input filters kept, untaken passage events withdrawn, a
BROKEN slot STANDING (R78, R80, R83, R87). -/
def timersReset (t : TimerUnit) : TimerUnit where
  station := Vector.replicate 12 .initial
  settle := Vector.replicate 4 .initial
  passage := .all .initial
  phase := .initial
  pause := .initial
  load := .initial
  reconcile := .initial
  heartbeat := Vector.replicate 12 .initial
  pwm := ⟨none, 0, 0⟩
  barriers := t.barriers
  door := t.door
  estop := t.estop
  slots := t.slots.map fun x => if x = .broken then .standing else x
  passages := []

/-- The level a drive gives, where PWM, with the generator STOPPED, is an open level (assumption 9). -/
def resetLevel (d : Drive) (open_ : Bool) : Bool :=
  match d with
  | .off => false
  | .on => true
  | .pwm => open_

/-- CS at Line Reset: IDLE with its pattern driven and no PHASE sent; batch counter, recipes and commit mark kept (R154,
assumption 11). -/
def chamberReset (c : Chamber) (open_ : Bool) : Chamber :=
  let p := c.working.patterns.idle
  { c with
    phase := .idle
    batchList := []
    ffCount := 0
    loadExpired := false
    purgeMinDone := false
    shredDone := false
    step := .none
    baseline := .none
    total := none
    outputs :=
      { n2Prop := resetLevel p.n2Prop open_
        n2Full := p.n2Full
        vent := p.vent
        circFan := p.circFan
        trapCool := p.trapCool
        shredDrive := false
        doorLock := p.doorLock
        discharge := p.discharge
        drain := p.drain
        beacon := p.beacon } }

/-- Line Reset (R208): every block returns to the state its chapter gives. -/
def lineReset (s : State) : State :=
  let open_ := Config.freeLevel s.freeCount
  let s := { s with
    line := { s.line with state := .config, windowExpired := false }
    lp := portReset s.lp
    records := []
    zu := ⟨[], .all [], [], [], [], .all .initial⟩
    stations := Vector.replicate 12 .initial
    progress := Vector.replicate 12 .initial
    vu := ⟨s.vu.vessels.map vesselReset, [], []⟩
    tu := timersReset s.tu
    cs := chamberReset s.cs open_
    freeCount := s.freeCount + 1 }
  sensorsReset s

/-- Line Reset (R208). -/
def lineResetBody (_ : Frame) (s : State) : State × Reply := answerDone (lineReset s) .empty

/-- LINE_RESET (R208). -/
def execLineReset (s : State) : Answer := .next (request .lineReset (supervisorBody lineResetBody) s)

/-! ## Adopt (R206) -/

/-- The place an Adopt names, with its stage checks: BAD_VALUE where it names none (R206). -/
def adoptPlace (s : State) (f : Frame) (st : Stage) : Option Place :=
  match namedPlace s f.fields.zoneCode f.fields.node with
  | none => none
  | some p =>
    if st = .waitInlet ∨ st = .evacuating ∨ st = .vacuumHold then none
    else
      match p with
      | .chamber => if st = .done1 ∨ st = .batched then some p else none
      | .station _ => if st = .claimed ∨ st = .done1 then some p else none
      | _ => some p

/-- The weight and charge of an Adopt: 1 kg and no charge where the frame does not carry them (R206). -/
def adoptCharge (f : Frame) : WeightCharge := f.fields.charge.getD ⟨1, false, 0⟩

/-- The stage is one at which an adopted record counts as finished (R206). -/
def adoptedAsDone (st : Stage) : Bool := st == .done1 || st == .batched || st == .rejected

/-- The adopted record (R206). -/
def adoptedRecord (c : NewCabinet) (st : Stage) (p : Place) (now : Clock) : Record :=
  { newRecord c now with
    stage := st
    station := match p with | .station n => some n | _ => none
    verdict := if adoptedAsDone st then .unmeasured else .none
    done1Stamp := if adoptedAsDone st then some now else none }

/-- The F and U foam records in CHAMBER, with one more record (R206). -/
def chamberFoamCount (s : State) (c : FoamClass) : Nat := ffCountOf s s.zu.chamber + (if countsAsF c then 1 else 0)

/-- The refusals of an Adopt after its value checks, in their order (R206). -/
def adoptRefusal (s : State) (c : NewCabinet) (p : Place) : Option Reason :=
  if (lookup s c.tag).isSome then some .duplicateTag
  else if (match p with | .station n => s.stations[n].claim.isSome | _ => false) = true then some .busy
  else if p = .chamber ∧ s.cs.working.fFoamMax < chamberFoamCount s c.foamClass then some .notEligible
  else if !hasFreePlace s p then some .zoneFull
  else if p = .chamber ∧ s.cs.working.batchSize ≤ s.zu.chamber.length then some .zoneFull
  else none

/-- A taken Adopt: the record joins the tail of its zone, and coverage is judged at a station position (R206). -/
def takeAdopt (s : State) (c : NewCabinet) (st : Stage) (p : Place) : State :=
  let s := addRecord s (adoptedRecord c st p s.clock) p
  match p with
  | .station n => judgeCoverage s n c.tag c.cls
  | _ => s

/-- Adopt (R206). -/
def adoptBody (f : Frame) (s : State) : State × Reply :=
  if s.line.state ≠ .reconcile then refuse s .lineState
  else
    match checkCabinet f.fields.tag f.fields.classCode f.fields.foamCode (adoptCharge f) none,
        stageOfCode f.fields.stageCode with
    | some c, some st =>
      match adoptPlace s f st with
      | none => refuse s .badValue
      | some p =>
        match adoptRefusal s c p with
        | some why => refuse s why
        | none =>
          let s := takeAdopt s c st p
          answerDone s (.occupancy (zoneList s p).length)
    | _, _ => refuse s .badValue

/-- ADOPT (R206). -/
def execAdopt (s : State) : Answer := .next (request .adopt (supervisorBody adoptBody) s)

/-! ## Power-on (R200) -/

/-- POWER_ON (R200 and the rules of each block): the power-on state with the first raw levels. The queue of waiting commands is
the model's own and stays. -/
def execPowerOn (levels : InputLevels) (s : State) : Answer := .next { State.powerOn levels with pending := s.pending }

end Sys2Proof.Machine
end

