-- ==== Sys2Proof/Machine/Inputs.lean ====
section
/-!
DEFINITION. The discrete inputs (4.4): raw changes, filtering, captures; and what ZU does with a passage event and with the
expiry of a passage channel (R33 to R35, R46, R47).
-/

namespace Sys2Proof.Machine

/-! ## Filtering (R83) -/

/-- The filter of an input. -/
def getInput (s : State) : Input → InputFilter
  | .barrier g => s.tu.barriers.get g
  | .door => s.tu.door
  | .estop => s.tu.estop

/-- The filter of an input is set. -/
def setInput (s : State) (i : Input) (x : InputFilter) : State :=
  match i with
  | .barrier g => { s with tu.barriers := s.tu.barriers.set g x }
  | .door => { s with tu.door := x }
  | .estop => { s with tu.estop := x }

/-- A candidate has held for its filter_time. -/
def candidateHeld (now : Clock) (c : Candidate) : Bool := reached now (c.stamp + msec c.filterTime)

/-- The filter after a raw change (R83). A raw level that differs from the filtered level forms a candidate where there is none; a
raw level that returns drops a candidate that has not held, and keeps one that has (assumption 8). -/
def rawChanged (x : InputFilter) (level : Bool) (now : Clock) (filterTime : Nat) : InputFilter :=
  if level = x.raw then x
  else
    { x with
      raw := level
      rawStamp := now
      candidate :=
        match x.candidate with
        | some c => if level = x.filtered ∧ candidateHeld now c = false then none else some c
        | none => if level = x.filtered then none else some ⟨now, filterTime⟩ }

/-- RAW_INPUT_CHANGE (R83). -/
def execRawInputChange (i : Input) (level : Bool) (s : State) : Answer :=
  .next (setInput s i (rawChanged (getInput s i) level s.clock s.cfg.filterTime))

/-- The filter after the acceptance of its candidate: the filtered level changes, and a raw level that differs from it becomes
the next candidate (R83, assumption 8). -/
def accepted (x : InputFilter) (filterTime : Nat) : InputFilter :=
  { x with
    filtered := !x.filtered
    candidate := if x.raw = !x.filtered then none else some ⟨x.rawStamp, filterTime⟩ }

/-! ## Captures (R85) -/

/-- The capture slot of a gate after an accepted change of its barrier. -/
def slotAfter (slot : SlotState) (interrupted : Bool) : SlotState :=
  match interrupted, slot with
  | true, .clear => .broken
  | true, x => x
  | false, _ => .clear

/-- An accepted change of a barrier moves the slot; a clearing of a BROKEN slot produces a passage event with its stamp. -/
def barrierChanged (s : State) (g : Gate) (interrupted : Bool) (stamp : Clock) : State :=
  let slot := s.tu.slots.get g
  let s := { s with tu.slots := s.tu.slots.set g (slotAfter slot interrupted) }
  if slot = .broken ∧ interrupted = false then { s with tu.passages := s.tu.passages ++ [⟨g, stamp, s.clock, false⟩] } else s

/-- An accepted change is delivered (R84, R85). -/
def deliverChange (s : State) (i : Input) (stamp : Clock) : State :=
  match i with
  | .barrier g => barrierChanged s g (s.tu.barriers.get g).filtered stamp
  | .door => chamberDoor s
  | .estop => estopChanged s

/-- INPUT_CHANGE_ACCEPTED (R83 to R85, R201): the candidate has held for its filter_time. -/
def execInputChangeAccepted (i : Input) (s : State) : Answer :=
  .next <|
    match (getInput s i).candidate with
    | some c =>
      if candidateHeld s.clock c then
        deliverChange (setInput s i (accepted (getInput s i) s.cfg.filterTime)) i c.stamp
      else s
    | none => s

/-! ## Passages (R33, R35, R46) -/

/-- The record in passage through a lane gate arrives in the lane (R33). -/
def lanePassage (s : State) (l : Lane) (t : Tag) (stamp : Clock) : State :=
  let s := gateToIdle s (.lane l)
  let s := putTail (takeOut s .intake t) (.lane l) t
  let s := updRecord s t fun r => { r with stage := .routed, routeStamp := some stamp }
  routingAttempt s

/-- The records that stand before one in BUFFER. -/
def standsAhead (s : State) (t : Tag) : List Tag := s.zu.buffer.takeWhile (· != t)

/-- The record in passage through FEED_GATE arrives in CHAMBER, and CS takes the admission (R46). -/
def feedPassage (s : State) (t : Tag) : State :=
  let ahead := standsAhead s t
  let s := gateToIdle s .feed
  let s := putTail (takeOut s .buffer t) .chamber t
  takeAdmission s ahead t

/-- ZU takes a passage event at a gate (R33, R35, R46). -/
def passageAt (s : State) (g : Gate) (stamp : Clock) : State :=
  let e := s.zu.gates.get g
  match e.state, e.passing, g with
  | .released, some t, .lane l => lanePassage s l t stamp
  | .released, some t, .feed => feedPassage s t
  | .released, none, _ => s
  | _, _, _ => setGate s g ⟨.blocked, false, none⟩

/-- The oldest untaken passage event of a gate. -/
def nextPassage (s : State) (g : Gate) : Option PassageEvent := s.tu.passages.find? (·.gate == g)

/-- The passage channel's expiry is pending and was delivered before the passage event: ZU takes the expiry first (R87). -/
def expiryComesFirst (s : State) (e : PassageEvent) : Bool :=
  (s.tu.passage.get e.gate).expiry.any fun d => reached e.delivered d

/-- PASSAGE (R33, R35, R46). The event is not due while an expiry that was delivered before it waits (R87). -/
def execPassage (g : Gate) (s : State) : Answer :=
  .next <|
    match nextPassage s g with
    | some e =>
      if expiryComesFirst s e then s else passageAt { s with tu.passages := s.tu.passages.erase e } g e.stamp
    | none => s

/-- JAM on the record whose admission did not take place: it stands before CS's selection attempt, which passes the record
over, and its HOLD RAISED is placed after a PHASE of that attempt (R47, R162, R155). A passage event that waits is overdue, and
ZU does not release FEED_GATE before it has taken it (assumption 37). -/
def jamAdmission (s : State) (t : Tag) : State :=
  if isNewHold s t .jam then sendHoldRaised (selectionAttempt (putHold (withdrawInlet s t) t .jam 0)) t .jam 0
  else selectionAttempt s

/-- The passage events that wait at FEED_GATE while ZU takes the expiry of its passage channel are overdue (R47, assumption
37). -/
def markOverdue (s : State) : State :=
  { s with tu.passages := s.tu.passages.map fun e => if e.gate = .feed then { e with overdue := true } else e }

/-- The passage channel of a RELEASED gate has expired (R34, R47). -/
def passageTimedOut (s : State) (g : Gate) : State :=
  let e := s.zu.gates.get g
  match e.state, e.passing with
  | .released, some t =>
    let s := gateToIdle s g
    match g with
    | .lane _ => routingAttempt (raiseHold s t .jam 0)
    | .feed => jamAdmission (markOverdue s) t
  | _, _ => s

/-- PASSAGE_TIMEOUT (R34, R47). -/
def execPassageTimeout (g : Gate) (s : State) : Answer :=
  .next <|
    match chDue s.clock (s.tu.passage.get g) with
    | some (_, c) => passageTimedOut (setPassage s g c) g
    | none => s

end Sys2Proof.Machine
end

