-- ==== Sys2Proof/Machine/Timers.lean ====
section
/-!
DEFINITION. The events of TU and SN that their owners take: heartbeat, dwell, window, settle and chamber expiries, slots and
polls, the PWM generator; and the tick of the line clock.
-/

namespace Sys2Proof.Machine

/-! ## Heartbeat (R59) -/

/-- The entry of a JOINED node whose counter has expired: LOST, STATION LOST is sent, and the station-loss effects follow
(R59). -/
def heartbeatExpired (s : State) (n : Node) : State :=
  let e := s.stations[n]
  if e.state = .joined then
    let stage := (e.claim.bind (lookup s)).map (·.stage)
    let s := updStation s n fun x => { x with state := .lost, lostLatch := true }
    let s := toSupervisor s (.stationLost n e.kind e.lane (claimTag e) stage)
    stationLoss s n 0
  else s

/-- HEARTBEAT_EXPIRY (R59). -/
def execHeartbeatExpiry (n : Node) (s : State) : Answer :=
  .next <|
    match chDue s.clock s.tu.heartbeat[n] with
    | some (_, c) => heartbeatExpired (setHeartbeat s n c) n
    | none => s

/-! ## Station channels (R92, R93, R96) -/

/-- DWELL_EXPIRY (R92). -/
def execDwellExpiry (n : Node) (s : State) : Answer :=
  .next <|
    match scDueExpiry s.clock s.tu.station[n] with
    | some (d, c) => dwellExpired (setStationChannel s n c) n d
    | none => s

/-- WINDOW_OPEN (R93, R76). -/
def execWindowOpen (n : Node) (s : State) : Answer :=
  .next <|
    match scDueOpen s.clock s.tu.station[n] with
    | some c => windowOpened (setStationChannel s n c) n
    | none => s

/-- WINDOW_CLOSE (R96): EC takes the open of a run before its close (R76). -/
def execWindowClose (n : Node) (s : State) : Answer :=
  .next <|
    match scDueClose s.clock s.tu.station[n] with
    | some c => windowClosed (setStationChannel s n c) n
    | none => s

/-! ## Settle channels (R116) -/

/-- SETTLE_EXPIRY (R116). -/
def execSettleExpiry (v : VesselIx) (s : State) : Answer :=
  .next <|
    match chDue s.clock s.tu.settle[v] with
    | some (_, c) => settleExpired (setSettle s v c) v
    | none => s

/-! ## The sensor line (R142 to R150) -/

/-- SLOT_START (R142). -/
def execSlotStart (s : State) : Answer := .next (slotStarts s)

/-- POLL_END (R145). The retry counts only where the first transaction failed. -/
def execPollEnd (first retry : Transaction) (s : State) : Answer := .next (pollEnds s first retry)

/-- IMMEDIATE_UNUSABLE_ANSWER (R150). -/
def execImmediateUnusableAnswer (r : Requester) (s : State) : Answer := .next (immediateAnswer s r)

/-! ## Chamber channels (R155, R167, R162) -/

/-- PHASE_EXPIRY (R155). -/
def execPhaseExpiry (s : State) : Answer :=
  .next <|
    match chDue s.clock s.tu.phase with
    | some (d, c) => phaseExpired { s with tu.phase := c } d
    | none => s

/-- PAUSE_EXPIRY (R167). -/
def execPauseExpiry (s : State) : Answer :=
  .next <|
    match chDue s.clock s.tu.pause with
    | some (_, c) => pauseExpired { s with tu.pause := c }
    | none => s

/-- LOAD_EXPIRY (R162). -/
def execLoadExpiry (s : State) : Answer :=
  .next <|
    match chDue s.clock s.tu.load with
    | some (_, c) => loadExpired { s with tu.load := c }
    | none => s

/-! ## The PWM generator (R81) -/

/-- The next period begins when the clock reaches the beginning of this one plus its pwm_period. -/
def nextPeriod (s : State) : State :=
  match s.tu.pwm.current with
  | some c =>
    let start := c.start + msec c.period
    if reached s.clock start then
      let p := pwmBegin s.tu.pwm start s.cs.working.pwmPeriod
      { s with tu.pwm := p, cs.outputs.n2Prop := pwmLevel p }
    else s
  | none => s

/-- PWM_PERIOD_START (R81, assumption 19). -/
def execPwmPeriodStart (s : State) : Answer := .next (nextPeriod s)

/-- The active time of the current period has run, where it is shorter than the period: the output goes inactive. -/
def endActiveTime (s : State) : State :=
  match s.tu.pwm.current with
  | some c =>
    if c.activeTime < c.period ∧ reached s.clock (c.start + msec c.activeTime) = true then
      { s with cs.outputs.n2Prop := false }
    else s
  | none => s

/-- ACTIVE_TIME_END (R81). -/
def execActiveTimeEnd (s : State) : Answer := .next (endActiveTime s)

/-! ## The line clock (R71) -/

/-- TU at a clock value: every channel whose deadline or point is reached delivers (R73, R76). -/
def advanceChannels (now : Clock) (t : TimerUnit) : TimerUnit :=
  { t with
    station := t.station.map (scAdvance now)
    settle := t.settle.map (chAdvance now)
    passage := t.passage.map (chAdvance now)
    phase := chAdvance now t.phase
    pause := chAdvance now t.pause
    load := chAdvance now t.load
    reconcile := chAdvance now t.reconcile
    heartbeat := t.heartbeat.map (chAdvance now) }

/-- One millisecond passes (R71, assumption 2). -/
def tick (s : State) : State := { s with clock := s.clock + 1, tu := advanceChannels (s.clock + 1) s.tu }

end Sys2Proof.Machine
end

