-- ==== Sys2Proof/Machine/Dispatch.lean ====
section
/-!
DEFINITION. The one dispatch from a command to its meaning.
-/

namespace Sys2Proof.Machine

/-- The meaning of a command on everything but the queue of waiting commands. -/
def exec (i : Instr) (s : State) : Host.Outcome State Fault Refusal :=
  match i with
  | .powerOn levels => Sys2Proof.Machine.execPowerOn levels s
  | .frameReceived f => Sys2Proof.Machine.execFrameReceived f s
  | .unknownKind => Sys2Proof.Machine.execUnknownKind s
  | .frameTransmitted => Sys2Proof.Machine.execFrameTransmitted s
  | .transmitError how => Sys2Proof.Machine.execTransmitError how s
  | .busOffRecovery => Sys2Proof.Machine.execBusOffRecovery s
  | .join => Sys2Proof.Machine.execJoin s
  | .leave => Sys2Proof.Machine.execLeave s
  | .pulse => Sys2Proof.Machine.execPulse s
  | .enrol => Sys2Proof.Machine.execEnrol s
  | .look => Sys2Proof.Machine.execLook s
  | .claimNext => Sys2Proof.Machine.execClaimNext s
  | .reclaim => Sys2Proof.Machine.execReclaim s
  | .classFound => Sys2Proof.Machine.execClassFound s
  | .inletRequest => Sys2Proof.Machine.execInletRequest s
  | .pressure => Sys2Proof.Machine.execPressure s
  | .reEvacuate => Sys2Proof.Machine.execReEvacuate s
  | .release => Sys2Proof.Machine.execRelease s
  | .configWrite => Sys2Proof.Machine.execConfigWrite s
  | .configRead => Sys2Proof.Machine.execConfigRead s
  | .recipeWrite => Sys2Proof.Machine.execRecipeWrite s
  | .recipeCommit => Sys2Proof.Machine.execRecipeCommit s
  | .lineStart => Sys2Proof.Machine.execLineStart s
  | .lineOpen => Sys2Proof.Machine.execLineOpen s
  | .lineResume => Sys2Proof.Machine.execLineResume s
  | .lineReset => Sys2Proof.Machine.execLineReset s
  | .adopt => Sys2Proof.Machine.execAdopt s
  | .recordRead => Sys2Proof.Machine.execRecordRead s
  | .zoneRead => Sys2Proof.Machine.execZoneRead s
  | .stationStatus => Sys2Proof.Machine.execStationStatus s
  | .vesselStatus => Sys2Proof.Machine.execVesselStatus s
  | .sensorStatus => Sys2Proof.Machine.execSensorStatus s
  | .chamberStatus => Sys2Proof.Machine.execChamberStatus s
  | .hold => Sys2Proof.Machine.execHold s
  | .clearHold => Sys2Proof.Machine.execClearHold s
  | .dispose => Sys2Proof.Machine.execDispose s
  | .retire => Sys2Proof.Machine.execRetire s
  | .override => Sys2Proof.Machine.execOverride s
  | .vesselOnline => Sys2Proof.Machine.execVesselOnline s
  | .vesselOffline => Sys2Proof.Machine.execVesselOffline s
  | .bar => Sys2Proof.Machine.execBar s
  | .unbar => Sys2Proof.Machine.execUnbar s
  | .gateClear => Sys2Proof.Machine.execGateClear s
  | .chamberRestart => Sys2Proof.Machine.execChamberRestart s
  | .chamberClear => Sys2Proof.Machine.execChamberClear s
  | .rawInputChange which level => Sys2Proof.Machine.execRawInputChange which level s
  | .inputChangeAccepted which => Sys2Proof.Machine.execInputChangeAccepted which s
  | .passage g => Sys2Proof.Machine.execPassage g s
  | .passageTimeout g => Sys2Proof.Machine.execPassageTimeout g s
  | .heartbeatExpiry n => Sys2Proof.Machine.execHeartbeatExpiry n s
  | .dwellExpiry n => Sys2Proof.Machine.execDwellExpiry n s
  | .windowOpen n => Sys2Proof.Machine.execWindowOpen n s
  | .windowClose n => Sys2Proof.Machine.execWindowClose n s
  | .settleExpiry v => Sys2Proof.Machine.execSettleExpiry v s
  | .slotStart => Sys2Proof.Machine.execSlotStart s
  | .pollEnd first retry => Sys2Proof.Machine.execPollEnd first retry s
  | .immediateUnusableAnswer r => Sys2Proof.Machine.execImmediateUnusableAnswer r s
  | .phaseExpiry => Sys2Proof.Machine.execPhaseExpiry s
  | .pauseExpiry => Sys2Proof.Machine.execPauseExpiry s
  | .loadExpiry => Sys2Proof.Machine.execLoadExpiry s
  | .reconcileExpiry => Sys2Proof.Machine.execReconcileExpiry s
  | .pwmPeriodStart => Sys2Proof.Machine.execPwmPeriodStart s
  | .transmissionStart => Sys2Proof.Machine.execTransmissionStart s
  | .activeTimeEnd => Sys2Proof.Machine.execActiveTimeEnd s

end Sys2Proof.Machine
end

