-- ==== Sys2Proof/WellFormed.lean ====
section
/-!
DEFINITION. Which commands are well formed: a frame has the format's data length, and weights, charges and class codes coded as in
Enrol fit the fields that carry them (R187, R198, R205, R206).
-/

namespace Sys2Proof

/-- A foam weight and a declared charge fit the 5 and 11 bits of R198. -/
def WeightCharge.wellFormed (w : WeightCharge) : Bool := decide (w.foamWeight < 32) && decide (w.declared < 2048)

/-- The fields of a creating Reclaim, coded as in Enrol: two-bit class codes (R205, R198). -/
def CabinetFields.wellFormed (c : CabinetFields) : Bool :=
  decide (c.classCode < 4) && decide (c.foamCode < 4) && c.charge.wellFormed

/-- A frame carries 0 to 8 data bytes (R187), and its named fields fit. -/
def Frame.wellFormed (f : Frame) : Bool :=
  decide (f.data.length ≤ 8)
    && f.fields.charge.all WeightCharge.wellFormed
    && f.fields.cabinet.all CabinetFields.wellFormed

/-- A command is well formed. -/
def Instr.wellFormed : Instr → Bool
  | .frameReceived f => f.wellFormed
  | _ => true

end Sys2Proof
end

