-- ==== Sys2Proof/Safety.lean ====
section
/-!
DEFINITION. The terms in which claims are stated: what a request at the head of the queue is, and the invariants that every step
keeps.
-/

namespace Sys2Proof.Machine

/-! ## Requests at the head of the queue -/

/-- The command that takes a request of a kind. -/
def requestCommand : ReqKind → Instr
  | .join => .join
  | .leave => .leave
  | .pulse => .pulse
  | .enrol => .enrol
  | .look => .look
  | .claimNext => .claimNext
  | .reclaim => .reclaim
  | .classFound => .classFound
  | .inletRequest => .inletRequest
  | .pressure => .pressure
  | .reEvacuate => .reEvacuate
  | .release => .release
  | .configWrite => .configWrite
  | .configRead => .configRead
  | .recipeWrite => .recipeWrite
  | .recipeCommit => .recipeCommit
  | .lineStart => .lineStart
  | .lineOpen => .lineOpen
  | .lineResume => .lineResume
  | .lineReset => .lineReset
  | .adopt => .adopt
  | .recordRead => .recordRead
  | .zoneRead => .zoneRead
  | .stationStatus => .stationStatus
  | .vesselStatus => .vesselStatus
  | .sensorStatus => .sensorStatus
  | .chamberStatus => .chamberStatus
  | .hold => .hold
  | .clearHold => .clearHold
  | .dispose => .dispose
  | .retire => .retire
  | .override => .override
  | .vesselOnline => .vesselOnline
  | .vesselOffline => .vesselOffline
  | .bar => .bar
  | .unbar => .unbar
  | .gateClear => .gateClear
  | .chamberRestart => .chamberRestart
  | .chamberClear => .chamberClear

/-- The state with the head of its request queue taken. -/
def popped (s : State) (rest : List Frame) : State := { s with lp.requests := rest }

/-- The head of the request queue is a frame of a kind, long enough, with room for the kind's answer (R190). -/
abbrev HeadIs (s : State) (k : ReqKind) (f : Frame) (rest : List Frame) : Prop :=
  s.lp.requests = f :: rest ∧ frameKind f = k.code ∧ k.minBytes ≤ f.data.length
    ∧ s.lp.answers.length + k.frames ≤ Config.queueDepth

/-- The head is a request of a station that passes the sender checks (R191, R52). -/
abbrev FromStation (s : State) (k : ReqKind) (n : Node) (f : Frame) (rest : List Frame) : Prop :=
  HeadIs s k f rest ∧ frameSource f = nodeNumber n
    ∧ (k = .join ∨ s.stations[n].state = .joined)
    ∧ k.stationMay s.stations[n].kind = true
    ∧ ¬(s.line.state = .stopped ∧ k.refusedInStopped = true)

/-- The head is a request of the supervisor that it may send (R191). -/
abbrev FromSupervisor (s : State) (k : ReqKind) (f : Frame) (rest : List Frame) : Prop :=
  HeadIs s k f rest ∧ frameSource f = supervisorNode ∧ k.supervisorMay = true

/-- A one-frame DONE answer. -/
def doneFrame (dest code : Nat) (r : Result) : AnswerFrame := ⟨dest, 0, .head .done none code r⟩

/-- A one-frame QUEUED answer. -/
def queuedFrame (dest code : Nat) (r : Result) : AnswerFrame := ⟨dest, 0, .head .queued none code r⟩

/-- A REFUSED answer. -/
def refusedFrame (dest code : Nat) (r : Reason) : AnswerFrame := ⟨dest, 0, .head .refused (some r) code .empty⟩

/-- The state in which a request taken by `popped` is answered with one frame. -/
def answeredWith (t : State) (a : AnswerFrame) : State := { t with lp.answers := t.lp.answers ++ [a] }

/-! ## Invariants -/

/-- An invariant that every step keeps. -/
def KeptByEveryStep (inv : State → Prop) : Prop := ∀ s t : State, inv s → step s = .next t → inv t

/-- The three queues of LP hold at most 16 entries each (R189, R190, R193). -/
def QueuesBounded (s : State) : Prop :=
  s.lp.requests.length ≤ 16 ∧ s.lp.answers.length ≤ 16 ∧ s.lp.notices.length ≤ 16

/-- An inlet valve is on exactly while its vessel is FILLING (R107). -/
def ValvesFollowState (s : State) : Prop := ∀ v : VesselIx, s.vu.vessels[v].valve = true ↔ s.vu.vessels[v].state = .filling

/-- A gate's release is on, and a record is in passage through it, exactly while it is RELEASED (R32). -/
def GatesAgree (s : State) : Prop :=
  ∀ g : Gate,
    ((s.zu.gates.get g).release = true ↔ (s.zu.gates.get g).state = .released)
      ∧ ((s.zu.gates.get g).passing.isSome = true ↔ (s.zu.gates.get g).state = .released)

/-- A disabled entry has no latest value, and a poll in flight that is not to be discarded is of an enabled entry (R141). -/
def SensorsAgree (s : State) : Prop :=
  (∀ i : SensorIx, s.sn.sensors[i].enabled = false → s.sn.sensors[i].latest = none)
    ∧ ∀ p : Poll, s.sn.inFlight = some p → p.discarded = false → s.sn.sensors[p.index].enabled = true

/-- SHRED_DRIVE is on only under the conditions of its interlock (R157). -/
def DriveInterlocked (s : State) : Prop :=
  SensorsAgree s ∧
    (s.cs.outputs.shredDrive = true →
      s.cs.phase = .shredding ∧ s.tu.door.filtered = true ∧ gasFailed s = false
        ∧ (∃ v : Int, latestO2 s = some v ∧ v ≤ s.cs.working.o2ShredMax)
        ∧ ∃ v : Int, effectiveLel s = some v ∧ v < s.cs.working.lelPause)

/-- The duties lie between 0 and 256, and in SHREDDING the staged duty is not below duty_min (R80, R82, R137). -/
def DutyInRange (s : State) : Prop :=
  s.cs.working.dutyMin ≤ 256 ∧ s.cs.staged.dutyMin ≤ 256 ∧ s.tu.pwm.staged ≤ 256 ∧ s.tu.pwm.applied ≤ 256
    ∧ (s.cs.phase = .shredding → s.cs.working.dutyMin ≤ s.tu.pwm.staged)

/-- No two records carry the same tag, no record carries a reserved tag, and no hold set holds a reason twice (R2, R8). -/
def TagsDistinct (s : State) : Prop :=
  (s.records.map (·.tag)).Nodup
    ∧ ∀ r ∈ s.records, reservedTag r.tag = false ∧ (r.holds.map (·.reason)).Nodup

/-- The counts and values of a record lie in their ranges (the table of 1.2; R14, R99, R130, R134, R154, R162). -/
def RecordsInRange (s : State) : Prop :=
  ∀ r ∈ s.records,
    1 ≤ r.foamWeight ∧ r.foamWeight ≤ 30 ∧ r.transfers ≤ 4 ∧ r.recovered ≤ 9999 ∧ r.reevacUsed ≤ 3 ∧ r.skipCount ≤ 3
      ∧ (∀ d : Nat, r.declaredCharge = some d → 1 ≤ d ∧ d ≤ 2000)
      ∧ (∀ d : Nat, r.dwellOverride = some d → 10 ≤ d ∧ d ≤ 600)
      ∧ (∀ k : Nat, r.batch = some k → 1 ≤ k ∧ k ≤ 65535)
      ∧ ∀ g : Nat, r.foamShare = some g → g ≤ 65535

/-- What the records' ranges rest on: reevac_max is at most 3 (R202), the batch counter at most 65,535, and above 0 once a
batch has a record (R154). -/
def CountersInRange (s : State) : Prop :=
  s.cfg.reevacMax ≤ 3 ∧ s.cs.batchCounter ≤ 65535 ∧ (s.cs.batchList ≠ [] → 1 ≤ s.cs.batchCounter)

/-! ## Where the cabinets stand -/

/-- The tags of all zone lists, the claims of the station positions among them (R24, R27). -/
def tagsInZones (s : State) : List Tag :=
  s.zu.intake ++ s.zu.lanes.a ++ s.zu.lanes.b ++ s.zu.lanes.c ++ s.zu.buffer ++ s.zu.chamber ++ s.zu.exit
    ++ s.stations.toList.filterMap (·.claim)

/-- Every record stands in exactly one zone list, once, and the lists hold nothing else (R24); no zone holds more records and
reserved places than its capacity (R26); a record names a station exactly when that station's claim names the record (R27,
R50). -/
def CabinetsStandOnce (s : State) : Prop :=
  (tagsInZones s).Perm (s.records.map (·.tag))
    ∧ (∀ p : Place, (zoneList s p).length + (if hasReserved s p then 1 else 0) ≤ capacity s p)
    ∧ ∀ r ∈ s.records, ∀ n : Node, r.station = some n ↔ s.stations[n].claim = some r.tag

/-- A gate is RELEASED only in RUN, and of the lane gates one at most; the record in passage through it is the head of INTAKE, or
stands in BUFFER (R29, R37, R45); the records of the batch stand in CHAMBER (R154). -/
def PassagesAgree (s : State) : Prop :=
  (∀ g : Gate, (s.zu.gates.get g).state = .released → s.line.state = .run)
    ∧ (∀ l m : Lane, (s.zu.gates.get (.lane l)).state = .released → (s.zu.gates.get (.lane m)).state = .released → l = m)
    ∧ (∀ (l : Lane) (t : Tag), (s.zu.gates.get (.lane l)).passing = some t → s.zu.intake.head? = some t)
    ∧ (∀ t : Tag, s.zu.gates.feed.passing = some t → t ∈ s.zu.buffer)
    ∧ ∀ t ∈ s.cs.batchList, t ∈ s.zu.chamber

/-- Every item of the line, class and zone tables lies in its range, and the pair rules hold (R202, R25, R93, R124). -/
def ConfigInRange (s : State) : Prop :=
  (∀ i : LineItem, (lineRange i).1 ≤ lineValue s.cfg i ∧ lineValue s.cfg i ≤ (lineRange i).2)
    ∧ (∀ c : Stream, 10 ≤ dwellOf s.cfg c ∧ dwellOf s.cfg c ≤ 600 ∧ oilPm s.cfg (classOfStream c) ≤ 200)
    ∧ s.cfg.holdDelay < s.cfg.holdEnd ∧ s.cfg.completeMin < s.cfg.overMax
    ∧ (∀ z : CapZone, 1 ≤ capacity s (capPlace z) ∧ capacity s (capPlace z) ≤ capLimit z)
    ∧ totalCapacity s.cfg ≤ 64

end Sys2Proof.Machine
end

