-- ==== Sys2Proof/Certificates/Slice0/Obligations.lean ====
section
/-!
DEFINITION. The statements for the provers. A statement of a command names the state it leaves field by field, so that everything it does
not name stays as it was; each says in its docstring which rules it formalises.
-/

open Sys2Proof Sys2Proof.Machine

/-! ## The step, the line clock and power-on -/

/-- One step takes the command at the front of the queue and runs it on the state with the rest of the queue.
The queue is the model's, assumption 1. -/
def Obligations.StepRunsFrontCommand : Prop :=
  ∀ (c : Instr) (rest : List Instr) (s : State), step { s with pending := c :: rest } = exec c { s with pending := rest }

/-- With no command waiting, a step is one millisecond: the line clock goes on by 1 and every channel of TU is advanced to it; the rest of
the state stays (R71; that the block takes a tick here is the model's choice, assumption 2). A deadline or phase-time channel or a heartbeat
counter whose deadline is reached goes IDLE with an expiry pending that carries the deadline; an IDLE or FROZEN one stays (R73, R77). A
deadline formed as the clock plus a duration of at most 1,800 s is reached after exactly that many milliseconds, whether or not the clock
wraps in between (R72). A start is a new run, RUNNING whatever its deadline, with nothing pending of the old one (R74). A freeze holds what
remains of a RUNNING channel, at least 1 ms, a resume lets a FROZEN one run that out from the line clock, and neither touches another
channel or a pending expiry (R77). A station channel run as a deadline expires in the same way; a two-point window opens at its open point
and closes at its close point, the open event coming first, and both are pending at once when both points are passed. EC reads WAITING, OPEN
or IDLE of a window and the time to its next point (R76); a channel is reported with its state and remaining time (R73), and the time to a
reached deadline is 0. The expiry or point of a run whose deadline is reached already follows its start as an event of its own: the owner
takes it of the channel as it would once TU has delivered it (R74, assumption 6); while none is pending or reached, the command of the
expiry changes nothing (assumption 1). -/
def Obligations.IdleStepIsOneTick : Prop :=
  (∀ s : State, s.pending = [] →
     ∃ u : TimerUnit,
       step s = .next { s with clock := s.clock + 1, tu := u }
       ∧ u = { s.tu with
           station := u.station, settle := u.settle, passage := u.passage, heartbeat := u.heartbeat
           phase := chAdvance (s.clock + 1) s.tu.phase, pause := chAdvance (s.clock + 1) s.tu.pause
           load := chAdvance (s.clock + 1) s.tu.load, reconcile := chAdvance (s.clock + 1) s.tu.reconcile }
       ∧ (∀ n : Node, u.station[n] = scAdvance (s.clock + 1) s.tu.station[n]
           ∧ u.heartbeat[n] = chAdvance (s.clock + 1) s.tu.heartbeat[n])
       ∧ (∀ v : VesselIx, u.settle[v] = chAdvance (s.clock + 1) s.tu.settle[v])
       ∧ ∀ g : Gate, u.passage.get g = chAdvance (s.clock + 1) (s.tu.passage.get g))
  ∧ (∀ (now : Clock) (c : Channel),
       (∀ d : Clock, c.run = .running d → chAdvance now c = if (now - d).toNat < 2 ^ 31 then ⟨.idle, some d⟩ else c)
       ∧ (c.run = .idle ∨ (∃ r : Nat, c.run = .frozen r) → chAdvance now c = c))
  ∧ (∀ (now d : Clock) (e : Option Clock) (r : Nat) (c : Channel),
       chStart d = ⟨.running d, none⟩
       ∧ chFreeze now ⟨.running d, e⟩ = ⟨.frozen (max 1 (if reached now d = true then 0 else (d - now).toNat)), e⟩
       ∧ chResume now ⟨.frozen r, e⟩ = ⟨.running (now + msec r), e⟩
       ∧ ((∀ x : Clock, c.run ≠ .running x) → chFreeze now c = c)
       ∧ ((∀ x : Nat, c.run ≠ .frozen x) → chResume now c = c))
  ∧ (∀ n : Nat, msec n = BitVec.ofNat 32 n ∧ sec n = BitVec.ofNat 32 (n * 1000))
  ∧ (∀ (t : Clock) (duration elapsed : Nat), duration ≤ 1800000 → elapsed < 2 ^ 31 →
       (reached (t + msec elapsed) (t + msec duration) = true ↔ duration ≤ elapsed))
  ∧ (∀ (now : Clock) (c : StationChannel),
       (c.run = .idle → scAdvance now c = c)
       ∧ (∀ d : Clock, c.run = .deadline d →
         scAdvance now c = if reached now d = true then { c with run := .idle, expiry := some d } else c)
       ∧ (∀ o cl : Clock, c.run = .waiting o cl →
         scAdvance now c = if reached now o = false then c
           else if reached now cl = false then { c with run := .opened cl, openEv := some o }
           else { c with run := .idle, openEv := some o, closeEv := some cl })
       ∧ ∀ cl : Clock, c.run = .opened cl →
         scAdvance now c = if reached now cl = true then { c with run := .idle, closeEv := some cl } else c)
  ∧ (∀ (now : Clock) (c : StationChannel),
       (scReported c, scRemainingMs now c) = match c.run with
         | .idle => (.idle, 0)
         | .deadline d => (.running, if reached now d = true then 0 else (d - now).toNat)
         | .waiting o _ => (.waiting, if reached now o = true then 0 else (o - now).toNat)
         | .opened cl => (.opened, if reached now cl = true then 0 else (cl - now).toNat))
  ∧ (∀ (now : Clock) (c : Channel),
       (reportedRun c, remainingMs now c) = match c.run with
         | .idle => (.idle, 0)
         | .running d => (.running, if reached now d = true then 0 else (d - now).toNat)
         | .frozen r => (.frozen, r))
  ∧ (∀ (s : State) (d : Clock), reached s.clock d = true →
       (∀ n : Node,
         exec (.heartbeatExpiry n) { s with tu.heartbeat := s.tu.heartbeat.set n ⟨.running d, none⟩ }
           = exec (.heartbeatExpiry n) { s with tu.heartbeat := s.tu.heartbeat.set n ⟨.idle, some d⟩ }
         ∧ exec (.dwellExpiry n) { s with tu.station := s.tu.station.set n ⟨.deadline d, none, none, none⟩ }
           = exec (.dwellExpiry n) { s with tu.station := s.tu.station.set n ⟨.idle, some d, none, none⟩ }
         ∧ (∀ cl : Clock,
             exec (.windowOpen n) { s with tu.station := s.tu.station.set n ⟨.waiting d cl, none, none, none⟩ }
               = exec (.windowOpen n) { s with tu.station := s.tu.station.set n ⟨.opened cl, none, some d, none⟩ })
         ∧ exec (.windowClose n) { s with tu.station := s.tu.station.set n ⟨.opened d, none, none, none⟩ }
           = exec (.windowClose n) { s with tu.station := s.tu.station.set n ⟨.idle, none, none, some d⟩ })
       ∧ (∀ v : VesselIx, exec (.settleExpiry v) { s with tu.settle := s.tu.settle.set v ⟨.running d, none⟩ }
           = exec (.settleExpiry v) { s with tu.settle := s.tu.settle.set v ⟨.idle, some d⟩ })
       ∧ (∀ g : Gate, exec (.passageTimeout g) { s with tu.passage := s.tu.passage.set g ⟨.running d, none⟩ }
           = exec (.passageTimeout g) { s with tu.passage := s.tu.passage.set g ⟨.idle, some d⟩ })
       ∧ exec .phaseExpiry { s with tu.phase := ⟨.running d, none⟩ } = exec .phaseExpiry { s with tu.phase := ⟨.idle, some d⟩ }
       ∧ exec .pauseExpiry { s with tu.pause := ⟨.running d, none⟩ } = exec .pauseExpiry { s with tu.pause := ⟨.idle, some d⟩ }
       ∧ exec .loadExpiry { s with tu.load := ⟨.running d, none⟩ } = exec .loadExpiry { s with tu.load := ⟨.idle, some d⟩ }
       ∧ exec .reconcileExpiry { s with tu.reconcile := ⟨.running d, none⟩ }
           = exec .reconcileExpiry { s with tu.reconcile := ⟨.idle, some d⟩ })
  ∧ ∀ (s : State) (waits : Channel → Prop),
      (∀ c : Channel, waits c ↔ c.expiry = none ∧ ∀ d : Clock, c.run = .running d → reached s.clock d = false) →
      (∀ n : Node,
        (waits s.tu.heartbeat[n] → exec (.heartbeatExpiry n) s = .next s)
        ∧ (s.tu.station[n].expiry = none → (∀ d : Clock, s.tu.station[n].run = .deadline d → reached s.clock d = false) →
            exec (.dwellExpiry n) s = .next s)
        ∧ (s.tu.station[n].openEv = none → (∀ o cl : Clock, s.tu.station[n].run = .waiting o cl → reached s.clock o = false) →
            exec (.windowOpen n) s = .next s)
        ∧ (s.tu.station[n].openEv ≠ none
              ∨ (s.tu.station[n].closeEv = none ∧ ∀ cl : Clock, s.tu.station[n].run = .opened cl → reached s.clock cl = false) →
            exec (.windowClose n) s = .next s))
      ∧ (∀ v : VesselIx, waits s.tu.settle[v] → exec (.settleExpiry v) s = .next s)
      ∧ (∀ g : Gate, waits (s.tu.passage.get g) → exec (.passageTimeout g) s = .next s)
      ∧ (waits s.tu.phase → exec .phaseExpiry s = .next s) ∧ (waits s.tu.pause → exec .pauseExpiry s = .next s)
      ∧ (waits s.tu.load → exec .loadExpiry s = .next s) ∧ (waits s.tu.reconcile → exec .reconcileExpiry s = .next s)

/-- Power-on gives the start state of every block: the line CONFIG, the table, zones, queues and requests empty, gates IDLE, stations
ABSENT, progress NONE, every channel, counter and the generator at rest, vessels OFFLINE with their configuration defaults, sensors disabled
with theirs, the chamber IDLE with every mark clear and both recipes at the defaults, the configuration at its defaults; the first raw input
levels are the filtered levels, and set the capture slots (R200 and the rules of each block). The queue of waiting commands, which is the
model's own, stays (assumption 1); the threshold pair of a SCALE entry is left open (assumption 20). -/
def Obligations.PowerOnGivesTheStartState : Prop :=
  ∀ (lv : InputLevels) (s : State),
    ∃ (t : State) (barrier : Gate → Bool), exec (.powerOn lv) s = .next t ∧ t.pending = s.pending
      ∧ (barrier (.lane .a) = lv.barrierA ∧ barrier (.lane .b) = lv.barrierB ∧ barrier (.lane .c) = lv.barrierC
          ∧ barrier .feed = lv.barrierFeed)
      ∧ t.clock = 0 ∧ t.line = ⟨.config, lv.estopAsserted, false⟩ ∧ t.records = []
      ∧ t.lp = ⟨[], [], [], 0, none, .transmit, 0, .onBus⟩
      ∧ (∀ p : Place, zoneList t p = [])
      ∧ (∀ g : Gate, t.zu.gates.get g = ⟨.idle, false, none⟩ ∧ t.tu.passage.get g = ⟨.idle, none⟩
          ∧ t.tu.barriers.get g = ⟨barrier g, 0, barrier g, none⟩
          ∧ t.tu.slots.get g = if barrier g = true then .standing else .clear)
      ∧ (∀ n : Node, t.stations[n] = ⟨.absent, none, none, {}, {}, none, false, none⟩
          ∧ t.progress[n] = ⟨.none, none, none, none, none, none, 0⟩
          ∧ t.tu.heartbeat[n] = ⟨.idle, none⟩ ∧ t.tu.station[n] = ⟨.idle, none, none, none⟩)
      ∧ (∀ v : VesselIx, t.tu.settle[v] = ⟨.idle, none⟩ ∧ t.vu.vessels[v] =
          { streamClass := if v < 2 then .h else .f, capacityG := 30000, fillPm := 800
            scaleSensor := t.vu.vessels[v].scaleSensor, settleS := 3, state := .offline, tareG := 0, netG := none
            bookedTotalG := 0, bound := none, baselineGross := none, faultCause := none, valve := false }
          ∧ t.vu.vessels[v].scaleSensor.val = 12 + v.val)
      ∧ t.vu.inqH = [] ∧ t.vu.inqF = []
      ∧ t.tu.phase = ⟨.idle, none⟩ ∧ t.tu.pause = ⟨.idle, none⟩ ∧ t.tu.load = ⟨.idle, none⟩ ∧ t.tu.reconcile = ⟨.idle, none⟩
      ∧ t.tu.pwm = ⟨none, 0, 0⟩ ∧ t.tu.passages = []
      ∧ t.tu.door = ⟨lv.doorClosed, 0, lv.doorClosed, none⟩ ∧ t.tu.estop = ⟨lv.estopAsserted, 0, lv.estopAsserted, none⟩
      ∧ (∀ i : SensorIx, t.sn.sensors[i] =
          { enabled := false, address := 8, kind := .scale, sampleIndex := 0, thresholds := t.sn.sensors[i].thresholds
            zero := 0, span := 1024, state := .init, latest := none, stale := false, saturated := false, failCount := 0
            goodCount := 0, faultLatch := false })
      ∧ t.sn.lastPolled = 15 ∧ t.sn.slotDue = 50 ∧ t.sn.inFlight = none ∧ t.sn.requests = [] ∧ t.sn.immediate = []
      ∧ t.cs = { t.cs with
          phase := .idle, batchList := [], batchCounter := 0, ffCount := 0, loadExpired := false, purgeMinDone := false
          shredDone := false, step := .none, baseline := .none, total := none, staged := t.cs.working, commitMark := false
          outputs := ⟨false, false, false, false, false, false, false, false, false, false⟩ }
      ∧ [Param.batchSize, .fFoamMax, .loadWait, .sealTimeout, .purgeTarget, .purgeMin, .purgeMax, .o2ShredMax, .o2Abort, .lelResume,
          .lelPause, .dutyMin, .lelAbort, .shredTime, .pauseMax, .condenseTime, .trapMax, .condenseSettle, .unloadTime, .pwmPeriod,
          .dutyBase, .lelTarget, .kp].map (paramValue t.cs.working)
          = [4, 2, 60, 20, 30, 30, 180, 40, 60, 150, 250, 16, 400, 240, 120, 300, -350, 3, 90, 100, 64, 100, 8]
      ∧ (t.cs.working.o2Sensor = 0 ∧ t.cs.working.lel1Sensor = 1 ∧ t.cs.working.lel2Sensor = none ∧ t.cs.working.trapSensor = 2
          ∧ t.cs.working.condensateSensor = 3)
      ∧ [Phase.idle, .loading, .sealing, .purging, .shredding, .paused, .condensing, .unloading, .aborted].map (patternOf t.cs.working)
          = [⟨.off, false, false, false, false, false, false, false, false, false⟩,
             ⟨.off, false, true, false, false, false, false, false, false, false⟩,
             ⟨.off, false, false, false, false, false, true, false, false, false⟩,
             ⟨.off, true, true, true, true, false, true, false, false, false⟩,
             ⟨.pwm, false, false, true, true, true, true, false, false, true⟩,
             ⟨.pwm, true, false, true, true, false, true, false, false, true⟩,
             ⟨.off, false, false, true, true, false, true, false, false, false⟩,
             ⟨.off, false, true, true, false, false, false, true, true, false⟩,
             ⟨.off, true, false, true, false, false, true, false, false, true⟩]
      ∧ [LineItem.passageTimeout, .heartbeatTimeout, .filterTime, .slotInterval, .holdDelay, .holdEnd, .riseLimit, .reevacMax,
          .negTolerance, .completeMin, .overMax, .reconcileWindow].map (lineValue t.cfg)
          = [8, 3000, 20, 50, 5, 30, 500, 2, 20, 850, 1150, 120]
      ∧ t.cfg.dwellH = 90 ∧ t.cfg.dwellF = 120 ∧ t.cfg.oilPmH = 30 ∧ t.cfg.oilPmF = 20
      ∧ t.cfg.capIntake = 8 ∧ t.cfg.capLanes = ⟨6, 6, 6⟩ ∧ t.cfg.capBuffer = 12 ∧ t.cfg.capExit = 8
      ∧ t.cfg.ratings = ⟨.closed, .closed, .closed⟩

/-! ## The line port -/

/-- A frame that passes the receive filter restarts the heartbeat counter of its station and is queued; with a full request queue it is
answered QUEUE_FULL, or discarded when the transmit queue is full too. A frame that does not pass, and every frame in BUS_OFF, does nothing
(R188, R189, R195). The filter passes an extended data frame received without bus error, addressed to node 0, from a station 1 to 12 or the
supervisor (R188), of at most 8 data bytes (R187, assumption 29). The restart begins a new run of a RUNNING counter, or of one whose expiry
SR has not yet taken, which is lost; an IDLE counter stays IDLE (R79; the pending case is assumption 7). -/
def Obligations.FrameReceivedIsQueuedOrAnswered : Prop :=
  (∀ (f : Frame) (s : State),
     (s.lp.bus = .busOff ∨ frameAccepted f = false → exec (.frameReceived f) s = .next s)
     ∧ (s.lp.bus = .onBus → frameAccepted f = true →
         ∃ h : Vector Channel 12,
           (∀ m : Node, h[m] = if frameSource f = nodeNumber m
             then chRestart s.clock s.cfg.heartbeatTimeout s.tu.heartbeat[m] else s.tu.heartbeat[m])
           ∧ (s.lp.requests.length < 16 →
               exec (.frameReceived f) s
                 = .next { s with tu.heartbeat := h, lp.requests := s.lp.requests ++ [f] })
           ∧ (16 ≤ s.lp.requests.length → s.lp.answers.length < 16 →
               exec (.frameReceived f) s
                 = .next (answeredWith { s with tu.heartbeat := h } (refusedFrame (frameSource f) (frameKind f) .queueFull)))
           ∧ (16 ≤ s.lp.requests.length → 16 ≤ s.lp.answers.length →
               exec (.frameReceived f) s = .next { s with tu.heartbeat := h })))
  ∧ (∀ f : Frame, frameAccepted f = true ↔
       f.extended = true ∧ f.remote = false ∧ f.busError = false ∧ f.data.length ≤ 8 ∧ frameDest f = 0
         ∧ ((1 ≤ frameSource f ∧ frameSource f ≤ 12) ∨ frameSource f = 14))
  ∧ (∀ (now d : Clock) (ms : Nat) (e : Option Clock), 0 < ms → ms ≤ 30000 →
       chRestart now ms ⟨.running d, e⟩ = ⟨.running (now + msec ms), none⟩
       ∧ chRestart now ms ⟨.idle, some d⟩ = ⟨.running (now + msec ms), none⟩
       ∧ chRestart now ms ⟨.idle, none⟩ = ⟨.idle, none⟩)

/-- The head waits while it is of another kind or the transmit queue lacks room for its kind's largest answer (R190); taken, it is refused
for a short data field, then by the sender checks in their order, and nothing but the two queues changes (R190, R191, R52). A head whose
kind code is no request code is answered REFUSED, UNKNOWN_KIND, when the transmit queue has room for one frame; the request codes are 0x11
to 0x1C and 0x21 to 0x3B (R190, 11.2). A Pressure, Hold, Dispose, Retire or Override, a Class Found of H, F or N outside CONFIG, and a
Release, Inlet Request or Re-evacuate in RUN are answered UNKNOWN_TAG where the tag finds no record (R41, R67, R89, R94, R99, R179, R184,
R21, R20). The table of 11.2 is written out, kind by kind, with its code, its least data bytes and its answer frames, and so is the table of
R191: what an INTAKE station, an EXTRACT station and the supervisor may send. That a command that is not due changes nothing is the model's
choice, assumption 1. -/
def Obligations.RequestWaitsOrIsRefused : Prop :=
  ((∀ (k : ReqKind) (s : State),
     (∀ (f : Frame) (rest : List Frame), s.lp.requests = f :: rest → frameKind f = k.code →
       16 < s.lp.answers.length + k.frames) →
     exec (requestCommand k) s = .next s)
   ∧ ∀ (k : ReqKind) (s : State) (f : Frame) (rest : List Frame),
     s.lp.requests = f :: rest → frameKind f = k.code → s.lp.answers.length + k.frames ≤ 16 →
     (f.data.length < k.minBytes → (frameSender f).isSome = true →
       exec (requestCommand k) s = .next (answeredWith (popped s rest) (refusedFrame (frameSource f) k.code .badValue)))
     ∧ (k.minBytes ≤ f.data.length → ∀ n : Node, frameSource f = nodeNumber n →
         (k ≠ .join → s.stations[n].state ≠ .joined →
           exec (requestCommand k) s = .next (answeredWith (popped s rest) (refusedFrame (nodeNumber n) k.code .notJoined)))
         ∧ (s.stations[n].state = .joined → k.stationMay s.stations[n].kind = false →
           exec (requestCommand k) s = .next (answeredWith (popped s rest) (refusedFrame (nodeNumber n) k.code .notPermitted)))
         ∧ (s.stations[n].state = .joined → k.stationMay s.stations[n].kind = true → s.line.state = .stopped →
           k = .claimNext ∨ k = .inletRequest ∨ k = .reEvacuate ∨ k = .release →
           exec (requestCommand k) s = .next (answeredWith (popped s rest) (refusedFrame (nodeNumber n) k.code .lineState))))
     ∧ (k.minBytes ≤ f.data.length → frameSource f = 14 → k.supervisorMay = false →
         exec (requestCommand k) s = .next (answeredWith (popped s rest) (refusedFrame 14 k.code .notPermitted))))
  ∧ ((∀ (s : State) (f : Frame) (rest : List Frame), s.lp.requests = f :: rest → isRequestCode (frameKind f) = false →
       s.lp.answers.length < 16 →
       exec .unknownKind s = .next (answeredWith (popped s rest) (refusedFrame (frameSource f) (frameKind f) .unknownKind)))
     ∧ ∀ code : Nat, isRequestCode code = true ↔ (0x11 ≤ code ∧ code ≤ 0x1C) ∨ (0x21 ≤ code ∧ code ≤ 0x3B))
  ∧ (∀ (s : State) (f : Frame) (rest : List Frame) (k : ReqKind), lookup s f.fields.tag = none →
       (∀ n : Node, FromStation s k n f rest →
         (k = .pressure ∨ (k = .classFound ∧ s.line.state ≠ .config ∧ f.fields.classCode ≤ 2)
             ∨ ((k = .release ∨ k = .inletRequest ∨ k = .reEvacuate) ∧ s.line.state = .run)) →
         exec (requestCommand k) s = .next (answeredWith (popped s rest) (refusedFrame (nodeNumber n) k.code .unknownTag)))
       ∧ (FromSupervisor s k f rest → k = .hold ∨ k = .dispose ∨ k = .retire ∨ k = .override →
         exec (requestCommand k) s = .next (answeredWith (popped s rest) (refusedFrame 14 k.code .unknownTag))))
  ∧ [ReqKind.join, .leave, .pulse, .enrol, .look, .claimNext, .reclaim, .classFound, .inletRequest, .pressure, .reEvacuate,
      .release, .configWrite, .configRead, .recipeWrite, .recipeCommit, .lineStart, .lineOpen, .lineResume, .lineReset, .adopt,
      .recordRead, .zoneRead, .stationStatus, .vesselStatus, .sensorStatus, .chamberStatus, .hold, .clearHold, .dispose,
      .retire, .override, .vesselOnline, .vesselOffline, .bar, .unbar, .gateClear, .chamberRestart,
      .chamberClear].map (fun k => (k.code, k.minBytes, k.frames))
      = [(0x11, 2, 1), (0x12, 0, 1), (0x13, 0, 1), (0x14, 8, 1), (0x15, 4, 2), (0x16, 0, 1), (0x17, 5, 1), (0x18, 5, 1),
         (0x19, 4, 1), (0x1A, 7, 1), (0x1B, 4, 1), (0x1C, 4, 1), (0x21, 3, 1), (0x22, 2, 1), (0x23, 4, 1), (0x24, 0, 1),
         (0x25, 0, 1), (0x26, 0, 1), (0x27, 0, 1), (0x28, 0, 1), (0x29, 6, 1), (0x2A, 4, 5), (0x2B, 3, 3), (0x2C, 1, 3),
         (0x2D, 1, 3), (0x2E, 1, 3), (0x2F, 0, 4), (0x30, 4, 1), (0x31, 5, 1), (0x32, 4, 1), (0x33, 4, 1), (0x34, 6, 1),
         (0x35, 4, 1), (0x36, 1, 1), (0x37, 1, 1), (0x38, 1, 1), (0x39, 1, 1), (0x3A, 0, 1), (0x3B, 0, 1)]
  ∧ ∀ (k : ReqKind) (ofExtract : Prop),
      (ofExtract ↔ k = .claimNext ∨ k = .reclaim ∨ k = .classFound ∨ k = .inletRequest ∨ k = .pressure ∨ k = .reEvacuate
        ∨ k = .release) →
      (k.supervisorMay = true ↔ k ≠ .join ∧ k ≠ .leave ∧ k ≠ .pulse ∧ ¬ofExtract)
      ∧ ∀ held : Option StationKind, k.stationMay held = true ↔
          k = .join ∨ k = .leave ∨ k = .pulse ∨ k = .look ∨ (k = .enrol ∧ held = some .intake) ∨ (ofExtract ∧ held = some .extract)

/-- The free transmitter takes the only queue that holds frames; with both, an answer already begun goes on, and otherwise the queue that
the last frame sent did not leave (R194; assumption 12 for what counts as the last frame sent); busy, in BUS_OFF or with nothing to send,
nothing begins. An answer goes out under kind code 0x40, a notice under its code 0x81 to 0x8A, each from node 0 to its destination with its
part index; part 0 of an answer begins with the codes of status, reason and the kind answered (R187, R192, R193, R197). Part 0 carries five
result bytes after its head and a later part eight, those that are not filled sent as zero (R192, R197). The bytes of an open layout, and of
a notice, are free values beside the named items (assumptions 4 and 40). A notice placed joins the tail of the notice queue while fewer than
16 stand there, and is discarded whole at 16 (R193). A transmission that ends well takes its frame from its queue, a notice with its last
frame, a DISCHARGE REPORT's second and any other's first, and lowers the error count by 1 down to 0. That a frame which Line Reset left on
the bus takes nothing from a queue at its end, and leaves the turn of the queues, is the model's choice, assumption 24 (R196). A
transmission that fails leaves the queues; an error adds 8 to the count, and a count above 255 is BUS_OFF, which recovery leaves with count
0 (R194, R195). That a command that is not due changes nothing is the model's choice, assumption 1. -/
def Obligations.TransmitterSendsTheQueues : Prop :=
  (∀ s : State,
     (s.lp.bus = .onBus → s.lp.sending = none →
       (s.lp.answers = [] → s.lp.notices = [] → exec .transmissionStart s = .next s)
       ∧ (∀ (a : AnswerFrame) (rest : List AnswerFrame), s.lp.answers = a :: rest → s.lp.notices = [] →
           exec .transmissionStart s = .next { s with lp.sending := some ⟨.answer, formAnswer a⟩ })
       ∧ (∀ (x : Notice) (rest : List Notice), s.lp.answers = [] → s.lp.notices = x :: rest →
           exec .transmissionStart s = .next { s with lp.sending := some ⟨.notice, formNotice x s.lp.noticeParts⟩ })
       ∧ ∀ (a : AnswerFrame) (rest : List AnswerFrame) (x : Notice) (more : List Notice),
           s.lp.answers = a :: rest → s.lp.notices = x :: more →
           exec .transmissionStart s
             = .next { s with
                 lp.sending := some (if 0 < a.part ∨ s.lp.prefer = .transmit then ⟨.answer, formAnswer a⟩
                   else ⟨.notice, formNotice x s.lp.noticeParts⟩) })
     ∧ (s.lp.bus = .busOff ∨ s.lp.sending ≠ none → exec .transmissionStart s = .next s))
  ∧ (∀ a : AnswerFrame, (formAnswer a).ident = identOf 0x40 0 a.dest a.part
       ∧ ∀ (r : Result) (b : List Byte), (r = .empty → b = []) → (∀ l : List Byte, r = .bytes l → b = l) →
         (r ≠ .empty → (∀ l : List Byte, r ≠ .bytes l) → b = Config.resultBytes r) →
         (a.body = .more r → (formAnswer a).data = (b ++ [0, 0, 0, 0, 0, 0, 0, 0]).take 8 ∧ (formAnswer a).items = .result r)
         ∧ ∀ (st : Status) (why : Option Reason) (kind : Nat), a.body = .head st why kind r → (formAnswer a).items = .result r
         ∧ (formAnswer a).data =
           [match st with | .done => 0 | .queued => 1 | .refused => 2,
            match why with
              | none => 0 | some .notJoined => 1 | some .notPermitted => 2 | some .unknownTag => 3 | some .duplicateTag => 4
              | some .zoneFull => 5 | some .notEligible => 6 | some .badStage => 7 | some .busy => 8 | some .badValue => 9
              | some .lineState => 10 | some .queueFull => 11 | some .noneAvailable => 12 | some .unknownKind => 13,
            BitVec.ofNat 8 kind] ++ (b ++ [0, 0, 0, 0, 0]).take 5)
  ∧ (∀ (x : Notice) (part : Nat),
       formNotice x part = ⟨identOf (match x.body with
         | .grant .. => 0x81 | .evacEnd .. => 0x82 | .holdResult .. => 0x83 | .stageDone .. => 0x84 | .holdRaised .. => 0x85
         | .stationLost .. => 0x86 | .limit .. => 0x87 | .phase .. => 0x88 | .vessel .. => 0x89 | .discharge .. => 0x8A)
         0 x.dest part, (Config.noticeBytes x.body part).take 8, .notice x.body⟩)
  ∧ (∀ (s : State) (dest : Nat) (body : NoticeBody), placeNotice s dest body =
       if s.lp.notices.length < 16 then { s with lp.notices := s.lp.notices ++ [⟨dest, body⟩] } else s)
  ∧ (∀ (s : State) (fr : OutFrame),
       (∀ (a : AnswerFrame) (rest : List AnswerFrame), s.lp.sending = some ⟨.answer, fr⟩ → s.lp.answers = a :: rest →
         exec .frameTransmitted s = .next { s with lp := { s.lp with
           answers := rest, sending := none, prefer := .notice, errorCount := s.lp.errorCount - 1 } })
       ∧ (∀ (x : Notice) (rest : List Notice) (parts : Nat), parts = (match x.body with | .discharge .. => 2 | _ => 1) →
         s.lp.sending = some ⟨.notice, fr⟩ → s.lp.notices = x :: rest →
         exec .frameTransmitted s = .next { s with lp := { s.lp with
           notices := if s.lp.noticeParts + 1 < parts then x :: rest else rest
           noticeParts := if s.lp.noticeParts + 1 < parts then s.lp.noticeParts + 1 else 0
           sending := none, prefer := .transmit, errorCount := s.lp.errorCount - 1 } })
       ∧ (s.lp.sending = some ⟨.orphan, fr⟩ →
         exec .frameTransmitted s = .next { s with lp := { s.lp with sending := none, errorCount := s.lp.errorCount - 1 } })
       ∧ (s.lp.sending ≠ none →
         exec (.transmitError .lostArbitration) s = .next { s with lp.sending := none }
         ∧ exec (.transmitError .error) s = .next { s with lp := { s.lp with
             sending := none
             errorCount := s.lp.errorCount + 8
             bus := if 255 < s.lp.errorCount + 8 then .busOff else s.lp.bus } })
       ∧ (s.lp.bus = .busOff → exec .busOffRecovery s = .next { s with lp.errorCount := 0, lp.bus := .onBus })
       ∧ (s.lp.sending = none → exec .frameTransmitted s = .next s ∧ ∀ w : TransmitFailure, exec (.transmitError w) s = .next s))

/-- Of every 29-bit identifier the kind is read from bits 28 to 21, the source from bits 20 to 17 and the destination from bits 16 to 13,
and bits 12 to 0, the part index among them, do not matter (R187, R197); an identifier formed from a kind, a source, a destination and a
part index holds them there, bits 9 to 0 zero. The data field of Enrol carries its fields in the bits of R198's table: a frame laid out so
reads back as those fields. -/
def Obligations.FrameBitsReadBack : Prop :=
  (∀ f : Frame, frameKind f = f.ident.toNat / 2 ^ 21 ∧ frameSource f = f.ident.toNat / 2 ^ 17 % 16
     ∧ frameDest f = f.ident.toNat / 2 ^ 13 % 16)
  ∧ (∀ (f g : Frame), f.ident.extractLsb' 13 16 = g.ident.extractLsb' 13 16 →
       frameKind f = frameKind g ∧ frameSource f = frameSource g ∧ frameDest f = frameDest g)
  ∧ (∀ (kind source dest part : Nat), kind < 256 → source < 16 → dest < 16 → part < 8 →
       (identOf kind source dest part).toNat = kind * 2 ^ 21 + source * 2 ^ 17 + dest * 2 ^ 13 + part * 2 ^ 10)
  ∧ ∀ (tag : Tag) (cls foam weight declared seconds : Nat) (hasDeclared hasDwell : Bool) (f : Frame),
    cls < 4 → foam < 4 → weight < 32 → declared < 2048 → seconds < 1024 →
    f.data = [tag.extractLsb' 24 8, tag.extractLsb' 16 8, tag.extractLsb' 8 8, tag.extractLsb' 0 8,
        BitVec.ofNat 8 (cls * 64 + foam * 16 + hasDeclared.toNat * 8 + hasDwell.toNat * 4 + seconds / 256),
        BitVec.ofNat 8 (seconds % 256),
        BitVec.ofNat 8 (weight * 8 + declared / 256), BitVec.ofNat 8 (declared % 256)] →
    frameEnrol f = ⟨tag, cls, foam, ⟨weight, hasDeclared, declared⟩, hasDwell, seconds⟩

/-! ## Stations -/

/-- A Join that passes its checks stores kind, lane and offered set, grants offered cut to the rating of the lane with N and SNIFF, starts
the heartbeat counter, and answers the granted set; an entry JOINED with SNIFF on its lane that was not so before brings a routing attempt.
With a claim, a rejoin from JOINED also has the station-loss effects, and one from LOST raises STATION_LOST (R54, R55, R29, R58). A Join is
refused in CONFIG with LINE_STATE, from a BARRED entry with NOT_PERMITTED, for another kind or lane than a held claim's and as a fourth
EXTRACT station, of those not ABSENT, of its lane with NOT_PERMITTED, for a bad kind, lane or offered set with BAD_VALUE (R53). A Leave of
an entry without a claim makes it ABSENT, its lost_latch kept, and stops its heartbeat counter; with a claim it is refused with BUSY (R56).
Pulse reports the line state and the claim; Look, from a station or the supervisor, reports the record in two frames, or UNKNOWN_TAG;
neither changes anything but LP's queues (R57, R18). -/
def Obligations.JoinLeavePulseAndLook : Prop :=
  ((∀ (s : State) (n : Node) (f : Frame) (rest : List Frame) (k : StationKind),
      FromStation s .join n f rest → s.line.state ≠ .config → s.stations[n].state ≠ .barred →
      f.fields.stationKind = some k → f.fields.offeredOther = false →
      (k = .extract → ∃ l : Lane, f.fields.lane = some l ∧ othersOnLane s n l < 3) →
      (s.stations[n].claim ≠ none → s.stations[n].kind = some k
        ∧ s.stations[n].lane = (if k = .extract then f.fields.lane else none)) →
      ∃ (g : Abilities) (u : State),
        g = (match k, f.fields.lane with
            | .intake, _ => f.fields.offered
            | .extract, none => { f.fields.offered with h := false, f := false }
            | .extract, some l =>
              { f.fields.offered with
                h := f.fields.offered.h && decide (s.cfg.ratings.get l = .h ∨ s.cfg.ratings.get l = .hf)
                f := f.fields.offered.f && decide (s.cfg.ratings.get l = .hf) })
        ∧ u = { popped s rest with
            stations := s.stations.set n { s.stations[n] with
              state := .joined
              kind := some k
              lane := if k = .extract then f.fields.lane else none
              offered := f.fields.offered
              granted := g }
            tu.heartbeat := s.tu.heartbeat.set n (chStart (s.clock + msec s.cfg.heartbeatTimeout)) }
        ∧ exec .join s = .next (answeredWith
            (let v := match s.stations[n].claim with
                | none => u
                | some t => if s.stations[n].state = .joined then stationLoss u n 0 else addHold u t .stationLost 0
             if newlySniffs s.stations[n] u.stations[n] = true then routingAttempt v else v)
            (doneFrame (nodeNumber n) 0x11 (.joined g (claimTag s.stations[n])))))
   ∧ (∀ (s : State) (n : Node) (f : Frame) (rest : List Frame), FromStation s .join n f rest →
        (s.line.state = .config →
          exec .join s = .next (answeredWith (popped s rest) (refusedFrame (nodeNumber n) 0x11 .lineState)))
        ∧ (s.line.state ≠ .config → s.stations[n].state = .barred →
          exec .join s = .next (answeredWith (popped s rest) (refusedFrame (nodeNumber n) 0x11 .notPermitted)))
        ∧ (s.line.state ≠ .config → s.stations[n].state ≠ .barred →
          f.fields.stationKind = none ∨ (f.fields.stationKind = some .extract ∧ f.fields.lane = none)
            ∨ f.fields.offeredOther = true →
          exec .join s = .next (answeredWith (popped s rest) (refusedFrame (nodeNumber n) 0x11 .badValue)))
        ∧ (s.line.state ≠ .config → s.stations[n].state ≠ .barred → f.fields.stationKind = some .intake →
          f.fields.offeredOther = false → s.stations[n].claim ≠ none →
          s.stations[n].kind ≠ some .intake ∨ s.stations[n].lane ≠ none →
          exec .join s = .next (answeredWith (popped s rest) (refusedFrame (nodeNumber n) 0x11 .notPermitted)))
        ∧ ∀ l : Lane, s.line.state ≠ .config → s.stations[n].state ≠ .barred → f.fields.stationKind = some .extract →
            f.fields.lane = some l → f.fields.offeredOther = false →
            (s.stations[n].claim ≠ none ∧ (s.stations[n].kind ≠ some .extract ∨ s.stations[n].lane ≠ some l))
              ∨ 3 ≤ othersOnLane s n l →
            exec .join s = .next (answeredWith (popped s rest) (refusedFrame (nodeNumber n) 0x11 .notPermitted))))
  ∧ ((∀ (s : State) (n : Node) (f : Frame) (rest : List Frame), FromStation s .leave n f rest →
        (s.stations[n].claim = none →
          exec .leave s = .next (answeredWith
            { popped s rest with
              stations := s.stations.set n ⟨.absent, none, none, {}, {}, none, s.stations[n].lostLatch, none⟩
              tu.heartbeat := s.tu.heartbeat.set n ⟨.idle, none⟩ }
            (doneFrame (nodeNumber n) 0x12 .empty)))
        ∧ (s.stations[n].claim ≠ none →
          exec .leave s = .next (answeredWith (popped s rest) (refusedFrame (nodeNumber n) 0x12 .busy))))
     ∧ ((∀ (s : State) (n : Node) (f : Frame) (rest : List Frame), FromStation s .pulse n f rest →
          exec .pulse s = .next (answeredWith (popped s rest)
            (doneFrame (nodeNumber n) 0x13 (.alive s.line.state (s.stations[n].claim.getD 0)))))
        ∧ ∀ (s : State) (f : Frame) (rest : List Frame) (dest : Nat),
          (dest = 14 ∧ FromSupervisor s .look f rest) ∨ (∃ n : Node, dest = nodeNumber n ∧ FromStation s .look n f rest) →
          (∀ r : Record, lookup s f.fields.tag = some r →
            exec .look s = .next { popped s rest with lp.answers := s.lp.answers ++
              [⟨dest, 0, .head .done none 0x15 (.lookPlace r.tag r.stage (placeOf s r.tag))⟩,
               ⟨dest, 1, .more (.lookDetail (nodeCode r.station) r.cls r.verdict (holdMarks r) (effectiveDwell s r))⟩] })
          ∧ (lookup s f.fields.tag = none →
            exec .look s = .next (answeredWith (popped s rest) (refusedFrame dest 0x15 .unknownTag)))))
  ∧ (∀ a b : StationEntry, newlySniffs a b = true ↔
       ∃ l : Lane, b.lane = some l ∧ b.state = .joined ∧ b.granted.sniff = true
         ∧ ¬(a.state = .joined ∧ a.lane = some l ∧ a.granted.sniff = true))
  ∧ ∀ (s : State) (n : Node) (l : Lane), othersOnLane s n l
      = ([0, 1, 2, 3, 4, 5, 6, 7, 8, 9, 10, 11].filter fun m : Node => m ≠ n ∧ s.stations[m].kind = some .extract
          ∧ s.stations[m].lane = some l ∧ s.stations[m].state ≠ .absent).length

/-- The expiry of a JOINED node's heartbeat counter makes the entry LOST with lost_latch set, sends STATION LOST with the stage before the
loss, and applies the station-loss effects with raised_by 0 (R59). Station-loss effects raise STATION_LOST on the claimed record. A CLAIMED
one keeps its stage; one in WAIT_INLET becomes CLAIMED, its entry leaves its queue, and a grant in BASELINE is abandoned, the vessel IDLE
and free for the next grant (R60, R120); one in VACUUM_HOLD becomes CLAIMED and its window is stopped; one that is EVACUATING becomes
CLAIMED, its dwell is stopped, and its FILLING vessel closes its valve and settles from the line clock; a DONE1 one stays as it is; without
a claim nothing happens (R60, R104, R115). Bar makes an entry BARRED: from ABSENT that is all; from JOINED the heartbeat counter is stopped,
and from JOINED or LOST the station-loss effects follow with raised_by 14; a BARRED entry is left alone. A node outside 1 to 12 is BAD_VALUE
(R62). -/
def Obligations.StationLostByHeartbeatOrBar : Prop :=
  ((∀ (s : State) (n : Node) (d : Clock), s.tu.heartbeat[n].expiry = some d → s.stations[n].state = .joined →
      exec (.heartbeatExpiry n) s = .next (stationLoss
        (placeNotice { s with
            tu.heartbeat := s.tu.heartbeat.set n { s.tu.heartbeat[n] with expiry := none }
            stations := s.stations.set n { s.stations[n] with state := .lost, lostLatch := true } }
          14 (.stationLost n s.stations[n].kind s.stations[n].lane (s.stations[n].claim.getD 0)
            ((s.stations[n].claim.bind (lookup s)).map (·.stage)))) n 0))
   ∧ (∀ (s : State) (n : Node) (by_ : Nat),
        (s.stations[n].claim = none → stationLoss s n by_ = s)
        ∧ ∀ (t : Tag) (r : Record), s.stations[n].claim = some t → lookup s t = some r →
          (r.stage = .done1 → stationLoss s n by_ = addHold s t .stationLost by_)
          ∧ (r.stage = .claimed →
              stationLoss s n by_ = addHold { s with
                tu.station := s.tu.station.set n ⟨.idle, none, none, none⟩
                progress := s.progress.set n .initial } t .stationLost by_)
          ∧ (r.stage = .vacuumHold →
              stationLoss s n by_ = addHold (setStage { s with
                tu.station := s.tu.station.set n ⟨.idle, none, none, none⟩
                progress := s.progress.set n .initial } t .claimed) t .stationLost by_)
          ∧ (r.stage = .waitInlet → (∀ v : VesselIx, boundVessel s t = some v → s.vu.vessels[v].state ≠ .baseline) →
              stationLoss s n by_ = addHold (setStage { s with
                vu.inqH := s.vu.inqH.filter (·.tag != t)
                vu.inqF := s.vu.inqF.filter (·.tag != t)
                tu.station := s.tu.station.set n ⟨.idle, none, none, none⟩
                progress := s.progress.set n .initial } t .claimed) t .stationLost by_)
          ∧ (∀ v : VesselIx, r.stage = .waitInlet → boundVessel s t = some v → s.vu.vessels[v].state = .baseline →
              ∃ u : State,
                u = grantAttempt (setStage { s with
                  vu := { s.vu with
                    vessels := s.vu.vessels.set v { s.vu.vessels[v] with state := .idle, bound := none }
                    inqH := s.vu.inqH.filter (·.tag != t)
                    inqF := s.vu.inqF.filter (·.tag != t) }
                  sn.requests := s.sn.requests.filter (·.requester != .vessel v)
                  sn.immediate := s.sn.immediate.filter (· != .vessel v) } t .claimed) s.vu.vessels[v].streamClass
                ∧ stationLoss s n by_ = addHold { u with
                  tu.station := s.tu.station.set n ⟨.idle, none, none, none⟩
                  progress := s.progress.set n .initial } t .stationLost by_)
          ∧ ∀ v : VesselIx, r.stage = .evacuating → boundVessel s t = some v → s.vu.vessels[v].state = .filling →
              stationLoss s n by_ = addHold (setStage { s with
                vu.vessels := s.vu.vessels.set v { s.vu.vessels[v] with valve := false, state := .settling }
                tu.settle := s.tu.settle.set v (chStart (s.clock + sec s.vu.vessels[v].settleS))
                tu.station := s.tu.station.set n ⟨.idle, none, none, none⟩
                progress := s.progress.set n .initial } t .claimed) t .stationLost by_))
  ∧ (∀ (s : State) (f : Frame) (rest : List Frame), FromSupervisor s .bar f rest →
       (f.fields.node = 0 ∨ 12 < f.fields.node →
         exec .bar s = .next (answeredWith (popped s rest) (refusedFrame 14 0x37 .badValue)))
       ∧ ∀ n : Node, f.fields.node = nodeNumber n →
         exec .bar s = .next (answeredWith
           (match s.stations[n].state with
             | .barred => popped s rest
             | .absent => { popped s rest with stations := s.stations.set n { s.stations[n] with state := .barred } }
             | .joined => stationLoss { popped s rest with
                 stations := s.stations.set n { s.stations[n] with state := .barred }
                 tu.heartbeat := s.tu.heartbeat.set n ⟨.idle, none⟩ } n 14
             | .lost => stationLoss { popped s rest with
                 stations := s.stations.set n { s.stations[n] with state := .barred } } n 14)
           (doneFrame 14 0x37 .empty)))

/-- Unbar (R63): from the supervisor in every line state; a station is NOT_PERMITTED, a node outside 1 to 12 BAD_VALUE, an entry that is not
BARRED BAD_STAGE and left as it is. Without a claim the entry becomes ABSENT and empty, with one LOST with kind, lane and claim kept; lost_latch
stays, no counter starts, and no record changes. -/
def Obligations.UnbarLiftsBar : Prop :=
  ∀ (s : State) (f : Frame) (rest : List Frame), HeadIs s .unbar f rest →
    (∀ m : Node, frameSource f = nodeNumber m → s.stations[m].state = .joined →
      exec .unbar s = .next (answeredWith (popped s rest) (refusedFrame (nodeNumber m) 0x38 .notPermitted)))
    ∧ (frameSource f = 14 →
      (f.fields.node = 0 ∨ 12 < f.fields.node →
        exec .unbar s = .next (answeredWith (popped s rest) (refusedFrame 14 0x38 .badValue)))
      ∧ ∀ n : Node, f.fields.node = nodeNumber n →
        (s.stations[n].state ≠ .barred →
          exec .unbar s = .next (answeredWith (popped s rest) (refusedFrame 14 0x38 .badStage)))
        ∧ (s.stations[n].state = .barred → s.stations[n].claim = none →
          exec .unbar s = .next (answeredWith
            { popped s rest with
              stations := s.stations.set n ⟨.absent, none, none, {}, {}, none, s.stations[n].lostLatch, none⟩ }
            (doneFrame 14 0x38 .empty)))
        ∧ (s.stations[n].state = .barred → s.stations[n].claim ≠ none →
          exec .unbar s = .next (answeredWith
            { popped s rest with stations := s.stations.set n { s.stations[n] with state := .lost } }
            (doneFrame 14 0x38 .empty))))

/-- A Claim Next in RUN, of an entry without a claim, takes the first record of the lane without a hold whose class the entry covers, U by
SNIFF (R64): the record leaves the lane for the station position, stage CLAIMED, or for class N DONE1 with verdict EMPTY and a STAGE DONE,
and a routing attempt follows (R65, R39); else it is refused with LINE_STATE, BUSY or NONE_AVAILABLE (R64). A Release in RUN of the sender's
own DONE1 record without holds moves it from the station position to the tail of BUFFER, the claim and the station field removed, is
answered with the records in BUFFER, and CS makes a selection attempt; each failing check refuses it, LINE_STATE outside RUN the first of
them (R41, R42); a tag that finds no record is in RequestWaitsOrIsRefused. -/
def Obligations.ClaimNextAndRelease : Prop :=
  (∀ (s : State) (n : Node) (f : Frame) (rest : List Frame), FromStation s .claimNext n f rest →
     (s.line.state ≠ .run → s.line.state ≠ .stopped →
       exec .claimNext s = .next (answeredWith (popped s rest) (refusedFrame (nodeNumber n) 0x16 .lineState)))
     ∧ (s.line.state = .run → s.stations[n].claim ≠ none →
       exec .claimNext s = .next (answeredWith (popped s rest) (refusedFrame (nodeNumber n) 0x16 .busy)))
     ∧ ∀ l : Lane, s.line.state = .run → s.stations[n].claim = none → s.stations[n].lane = some l →
       ((∀ t ∈ s.zu.lanes.get l, ∀ r : Record, lookup s t = some r → r.holds = [] → covers s.stations[n].granted r.cls = false) →
         exec .claimNext s = .next (answeredWith (popped s rest) (refusedFrame (nodeNumber n) 0x16 .noneAvailable)))
       ∧ ∀ (before after : List Tag) (t : Tag) (r : Record), s.zu.lanes.get l = before ++ t :: after → lookup s t = some r →
         r.holds = [] → covers s.stations[n].granted r.cls = true →
         (∀ x ∈ before, ∀ y : Record, lookup s x = some y → y.holds = [] → covers s.stations[n].granted y.cls = false) →
         ∃ u : State,
           u = { popped s rest with
             zu.lanes := s.zu.lanes.set l ((s.zu.lanes.get l).filter (· != t))
             stations := s.stations.set n { s.stations[n] with claim := some t }
             records := s.records.map fun x => if x.tag = t then
               (if r.cls = .n then
                 { x with station := some n, stage := .done1, verdict := .empty, done1Stamp := some s.clock }
                else { x with station := some n, stage := .claimed }) else x }
           ∧ exec .claimNext s = .next (answeredWith
               (routingAttempt (if r.cls = .n then
                 placeNotice u (nodeNumber n) (.stageDone t .empty r.recovered) else u))
               (doneFrame (nodeNumber n) 0x16 (.claimed t r.cls))))
  ∧ (∀ (s : State) (n : Node) (f : Frame) (rest : List Frame), FromStation s .release n f rest → s.line.state ≠ .run →
       exec .release s = .next (answeredWith (popped s rest) (refusedFrame (nodeNumber n) 0x1C .lineState)))
  ∧ (∀ (s : State) (n : Node) (f : Frame) (rest : List Frame) (r : Record),
       FromStation s .release n f rest → s.line.state = .run → lookup s f.fields.tag = some r →
       (s.stations[n].claim ≠ some f.fields.tag →
         exec .release s = .next (answeredWith (popped s rest) (refusedFrame (nodeNumber n) 0x1C .notPermitted)))
       ∧ (s.stations[n].claim = some f.fields.tag →
         (r.stage ≠ .done1 →
           exec .release s = .next (answeredWith (popped s rest) (refusedFrame (nodeNumber n) 0x1C .badStage)))
         ∧ (r.stage = .done1 → r.holds ≠ [] →
           exec .release s = .next (answeredWith (popped s rest) (refusedFrame (nodeNumber n) 0x1C .notEligible)))
         ∧ (r.stage = .done1 → r.holds = [] → s.cfg.capBuffer ≤ s.zu.buffer.length →
           exec .release s = .next (answeredWith (popped s rest) (refusedFrame (nodeNumber n) 0x1C .zoneFull)))
         ∧ (r.stage = .done1 → r.holds = [] → s.zu.buffer.length < s.cfg.capBuffer →
           exec .release s = .next (answeredWith
             (selectionAttempt { popped s rest with
               stations := s.stations.set n { s.stations[n] with claim := none }
               records := s.records.map fun x => if x.tag = f.fields.tag then { x with station := none } else x
               zu.buffer := s.zu.buffer ++ [f.fields.tag] })
             (doneFrame (nodeNumber n) 0x1C (.occupancy (s.zu.buffer.length + 1)))))))
  ∧ ∀ g : Abilities, [Sys2Proof.Class.h, .f, .n, .u].map (covers g) = [g.h, g.f, g.n, g.sniff]

/-- A Reclaim of the sender's own record clears STATION_LOST where it is held and raises CLASS_CONFLICT where the entry does not cover the
class; the answer carries the stage and the conflict mark. A record of another station, a lane or BUFFER is NOT_PERMITTED, and a tag that
finds none UNKNOWN_TAG outside RECONCILE (R66). In RECONCILE such a tag creates a record at the sender's position: CLAIMED, or DONE1 and
UNMEASURED when the done mark is set, or DONE1 and EMPTY for class N, stamped then, weight and declared charge as R14 checks and clamps
them; a class the sender does not cover raises CLASS_CONFLICT with raised_by 0 and the answer says so; a frame too short or a value that R14
refuses is BAD_VALUE, a sender with a claim BUSY (R205). A Class Found of H, F or N on the sender's own CLAIMED record with no transfer sets
the class and keeps enrolled_class; with a vessel bound it is BUSY, and a code that names none of them is BAD_VALUE. Covered, it clears
CLASS_CONFLICT, and N makes the record DONE1 and EMPTY; not covered, it raises CLASS_CONFLICT (R67, R68). -/
def Obligations.ReclaimAndClassFound : Prop :=
  ((∀ (s : State) (n : Node) (f : Frame) (rest : List Frame), FromStation s .reclaim n f rest → s.line.state ≠ .config →
      (∀ r : Record, lookup s f.fields.tag = some r →
        (r.station ≠ some n →
          exec .reclaim s = .next (answeredWith (popped s rest) (refusedFrame (nodeNumber n) 0x17 .notPermitted)))
        ∧ (r.station = some n →
          ∃ u : State,
            u = (let v := if carries r .stationLost = true then clearHold (popped s rest) f.fields.tag .stationLost else popped s rest
                 if covers s.stations[n].granted r.cls = true then v else raiseHold v f.fields.tag .classConflict 0)
            ∧ exec .reclaim s = .next (answeredWith u
                (doneFrame (nodeNumber n) 0x17 (.reclaimed (tagStage u f.fields.tag) (tagCarries u f.fields.tag .classConflict))))))
      ∧ (lookup s f.fields.tag = none → s.line.state ≠ .reconcile →
        exec .reclaim s = .next (answeredWith (popped s rest) (refusedFrame (nodeNumber n) 0x17 .unknownTag))))
   ∧ (∀ (s : State) (n : Node) (f : Frame) (rest : List Frame) (read : Option NewCabinet),
        FromStation s .reclaim n f rest → s.line.state = .reconcile → lookup s f.fields.tag = none →
        read = f.fields.cabinet.bind (fun w => checkCabinet f.fields.tag w.classCode w.foamCode w.charge none) →
        (read = none →
          exec .reclaim s = .next (answeredWith (popped s rest) (refusedFrame (nodeNumber n) 0x17 .badValue)))
        ∧ (read ≠ none → s.stations[n].claim ≠ none →
          exec .reclaim s = .next (answeredWith (popped s rest) (refusedFrame (nodeNumber n) 0x17 .busy)))
        ∧ (∀ c : NewCabinet, read = some c → s.stations[n].claim = none →
          ∃ (r : Record) (u : State),
            r = { tag := c.tag, enrolledClass := c.cls, cls := c.cls, foamClass := c.foamClass, foamWeight := c.foamWeight
                  declaredCharge := c.declaredCharge
                  stage := if c.cls = .n ∨ f.fields.doneMark = true then .done1 else .claimed
                  station := some n, vessel := none, transfers := 0, recovered := 0
                  verdict := if c.cls = .n then .empty else if f.fields.doneMark = true then .unmeasured else .none
                  dwellOverride := none, holds := [], reevacUsed := 0, skipCount := 0, enrolStamp := s.clock
                  routeStamp := none
                  done1Stamp := if c.cls = .n ∨ f.fields.doneMark = true then some s.clock else none
                  batch := none, foamShare := none }
            ∧ u = { popped s rest with
                records := s.records ++ [r]
                stations := s.stations.set n { s.stations[n] with claim := some c.tag } }
            ∧ exec .reclaim s = .next (if covers s.stations[n].granted c.cls = true then
                answeredWith u (doneFrame (nodeNumber n) 0x17 (.reclaimed r.stage false))
              else answeredWith (raiseHold u c.tag .classConflict 0)
                (doneFrame (nodeNumber n) 0x17 (.reclaimed r.stage true))))))
  ∧ (∀ (s : State) (n : Node) (f : Frame) (rest : List Frame),
       FromStation s .classFound n f rest → s.line.state ≠ .config → 3 ≤ f.fields.classCode →
       exec .classFound s = .next (answeredWith (popped s rest) (refusedFrame (nodeNumber n) 0x18 .badValue)))
  ∧ (∀ (s : State) (n : Node) (f : Frame) (rest : List Frame) (c : Sys2Proof.Class) (r : Record),
       FromStation s .classFound n f rest → s.line.state ≠ .config →
       classOfCode f.fields.classCode = some c → lookup s f.fields.tag = some r →
       (c = .u → exec .classFound s = .next (answeredWith (popped s rest) (refusedFrame (nodeNumber n) 0x18 .badValue)))
       ∧ (c ≠ .u → s.stations[n].claim ≠ some f.fields.tag →
         exec .classFound s = .next (answeredWith (popped s rest) (refusedFrame (nodeNumber n) 0x18 .notPermitted)))
       ∧ (c ≠ .u → s.stations[n].claim = some f.fields.tag → r.stage ≠ .claimed ∨ r.transfers ≠ 0 →
         exec .classFound s = .next (answeredWith (popped s rest) (refusedFrame (nodeNumber n) 0x18 .badStage)))
       ∧ (c ≠ .u → s.stations[n].claim = some f.fields.tag → r.stage = .claimed → r.transfers = 0 →
           boundVessel s f.fields.tag ≠ none →
         exec .classFound s = .next (answeredWith (popped s rest) (refusedFrame (nodeNumber n) 0x18 .busy)))
       ∧ (c ≠ .u → s.stations[n].claim = some f.fields.tag → r.stage = .claimed → r.transfers = 0 →
           boundVessel s f.fields.tag = none →
         ∃ u : State,
           u = (let v := { popped s rest with
                 records := s.records.map fun x => if x.tag = f.fields.tag then { x with cls := c } else x }
                if covers s.stations[n].granted c = true then
                  let v := if carries r .classConflict = true then clearHold v f.fields.tag .classConflict else v
                  if c = .n then enterDone1Empty v f.fields.tag else v
                else raiseHold v f.fields.tag .classConflict 0)
           ∧ exec .classFound s = .next (answeredWith u
               (doneFrame (nodeNumber n) 0x18 (.classFound c (tagStage u f.fields.tag) (tagCarries u f.fields.tag .classConflict))))))
  ∧ ∀ (s : State) (t : Tag), enterDone1Empty s t
      = enterDone1 { s with records := s.records.map fun x => if x.tag = t then { x with verdict := .empty } else x } t

/-! ## Records, evacuation requests and zones -/

/-- An Enrol that passes every check creates one record at stage NEW with the values read and clamped (R14, R16) and places it at the tail
of INTAKE; into an empty INTAKE it brings a routing attempt (R29). It is taken from an INTAKE station in RUN or STOPPED and from the
supervisor in RUN, and is else refused with LINE_STATE (R13); the first failing check of value, tag and INTAKE refuses it (R15). The values
are those of the data field, the override only where its mark is set (R14, R198). A reserved tag, foam class N, and a declared charge of 0
or above 2,000 are refused, as is a code above 3, which the two bits of an Enrol cannot spell and an Adopt or a Reclaim can; else the foam
weight is clamped to 1 to 30 kg and a dwell override to 10 to 600 s (R14). A reserved tag finds no record (R2). -/
def Obligations.EnrolCreatesRecord : Prop :=
  (∀ (s : State) (f : Frame) (rest : List Frame),
     (∀ n : Node, FromStation s .enrol n f rest → s.line.state ≠ .run → s.line.state ≠ .stopped →
       exec .enrol s = .next (answeredWith (popped s rest) (refusedFrame (nodeNumber n) 0x14 .lineState)))
     ∧ (FromSupervisor s .enrol f rest → s.line.state ≠ .run →
       exec .enrol s = .next (answeredWith (popped s rest) (refusedFrame 14 0x14 .lineState))))
  ∧ (∀ (s : State) (f : Frame) (rest : List Frame) (dest : Nat),
     (dest = 14 ∧ FromSupervisor s .enrol f rest ∧ s.line.state = .run)
       ∨ (∃ n : Node, dest = nodeNumber n ∧ FromStation s .enrol n f rest ∧ (s.line.state = .run ∨ s.line.state = .stopped)) →
     (enrolCabinet f = none →
       exec .enrol s = .next (answeredWith (popped s rest) (refusedFrame dest 0x14 .badValue)))
     ∧ ∀ c : NewCabinet, enrolCabinet f = some c →
       (lookup s c.tag ≠ none →
         exec .enrol s = .next (answeredWith (popped s rest) (refusedFrame dest 0x14 .duplicateTag)))
       ∧ (lookup s c.tag = none → s.cfg.capIntake ≤ s.zu.intake.length →
         exec .enrol s = .next (answeredWith (popped s rest) (refusedFrame dest 0x14 .zoneFull)))
       ∧ (lookup s c.tag = none → s.zu.intake.length < s.cfg.capIntake →
         ∃ u : State,
           u = { popped s rest with
             records := s.records ++ [{ tag := c.tag, enrolledClass := c.cls, cls := c.cls, foamClass := c.foamClass
                                        foamWeight := c.foamWeight, declaredCharge := c.declaredCharge, stage := .new
                                        station := none, vessel := none, transfers := 0, recovered := 0, verdict := .none
                                        dwellOverride := c.dwellOverride, holds := [], reevacUsed := 0, skipCount := 0
                                        enrolStamp := s.clock, routeStamp := none, done1Stamp := none, batch := none
                                        foamShare := none }]
             zu.intake := s.zu.intake ++ [c.tag] }
           ∧ exec .enrol s = .next (answeredWith (if s.zu.intake = [] then routingAttempt u else u)
               (doneFrame dest 0x14 (.enrolled (s.zu.intake.length + 1) (s.records.length + 1))))))
  ∧ (∀ (tag : Tag) (cls foam weight declared : Nat) (has : Bool) (dwell : Option Nat),
       (checkCabinet tag cls foam ⟨weight, has, declared⟩ dwell = none
         ↔ tag = 0 ∨ tag = BitVec.allOnes 32 ∨ (has = true ∧ (declared = 0 ∨ 2000 < declared)) ∨ 4 ≤ cls ∨ foam = 2 ∨ 4 ≤ foam)
       ∧ ∀ c : NewCabinet, checkCabinet tag cls foam ⟨weight, has, declared⟩ dwell = some c →
         c.tag = tag ∧ classCode c.cls = cls ∧ foamCode c.foamClass = foam ∧ c.foamWeight = max 1 (min weight 30)
           ∧ c.declaredCharge = (if has = true then some declared else none)
           ∧ c.dwellOverride = dwell.map fun d => max 10 (min d 600))
  ∧ (∀ (f : Frame) (tag : Tag) (cls foam seconds : Nat) (charge : WeightCharge) (mark : Bool),
       frameEnrol f = ⟨tag, cls, foam, charge, mark, seconds⟩ →
       enrolCabinet f = checkCabinet tag cls foam charge (if mark = true then some seconds else none))
  ∧ ∀ (s : State) (t : Tag), lookup s t = if t = 0 ∨ t = BitVec.allOnes 32 then none else s.records.find? fun r => r.tag = t

/-- An Inlet Request in RUN of the sender's own CLAIMED record, of class H or F, without hold or vessel, makes the record WAIT_INLET, joins
its entry to the tail of its class queue, is answered QUEUED with the position, and a grant attempt follows; each failing check refuses it,
LINE_STATE outside RUN the first of them (R89, R110, R111). A Re-evacuate in RUN of the sender's own record, in VACUUM_HOLD or CLAIMED with
LEAK as its only hold, no vessel bound and reevac_used below reevac_max, counts one more re-evacuation, removes LEAK and queues the record
as an Inlet Request does; another station's record and a spent allowance are NOT_PERMITTED, another stage or no LEAK is BAD_STAGE, another
hold besides NOT_ELIGIBLE, a bound vessel BUSY, in the order of R99, and outside RUN it is LINE_STATE; a tag that finds no record is in
RequestWaitsOrIsRefused. -/
def Obligations.InletRequestAndReEvacuate : Prop :=
  (∀ (s : State) (n : Node) (f : Frame) (rest : List Frame), s.line.state ≠ .run →
     (FromStation s .inletRequest n f rest →
       exec .inletRequest s = .next (answeredWith (popped s rest) (refusedFrame (nodeNumber n) 0x19 .lineState)))
     ∧ (FromStation s .reEvacuate n f rest →
       exec .reEvacuate s = .next (answeredWith (popped s rest) (refusedFrame (nodeNumber n) 0x1B .lineState))))
  ∧ (∀ (s : State) (n : Node) (f : Frame) (rest : List Frame) (r : Record),
     FromStation s .inletRequest n f rest → s.line.state = .run → lookup s f.fields.tag = some r →
     (s.stations[n].claim ≠ some f.fields.tag →
       exec .inletRequest s = .next (answeredWith (popped s rest) (refusedFrame (nodeNumber n) 0x19 .notPermitted)))
     ∧ (s.stations[n].claim = some f.fields.tag →
       (r.stage ≠ .claimed →
         exec .inletRequest s = .next (answeredWith (popped s rest) (refusedFrame (nodeNumber n) 0x19 .badStage)))
       ∧ (r.stage = .claimed → r.holds ≠ [] ∨ r.cls = .n ∨ r.cls = .u →
         exec .inletRequest s = .next (answeredWith (popped s rest) (refusedFrame (nodeNumber n) 0x19 .notEligible)))
       ∧ (r.stage = .claimed → r.holds = [] → r.cls = .h ∨ r.cls = .f → boundVessel s f.fields.tag ≠ none →
         exec .inletRequest s = .next (answeredWith (popped s rest) (refusedFrame (nodeNumber n) 0x19 .busy)))
       ∧ ∀ c : Stream, r.stage = .claimed → r.holds = [] → r.cls = classOfStream c → boundVessel s f.fields.tag = none →
         exec .inletRequest s = .next (answeredWith
           (grantAttempt { popped s rest with
             records := s.records.map fun x => if x.tag = f.fields.tag then { x with stage := .waitInlet } else x
             vu := match c with
               | .h => { s.vu with inqH := s.vu.inqH ++ [⟨n, f.fields.tag⟩] }
               | .f => { s.vu with inqF := s.vu.inqF ++ [⟨n, f.fields.tag⟩] } } c)
           (queuedFrame (nodeNumber n) 0x19 (.inlet c ((inletQueue s c).length + 1))))))
  ∧ (∀ (s : State) (n : Node) (f : Frame) (rest : List Frame) (r : Record) (refused : Reason → Prop),
       (∀ why : Reason, refused why ↔
         exec .reEvacuate s = .next (answeredWith (popped s rest) (refusedFrame (nodeNumber n) 0x1B why))) →
       FromStation s .reEvacuate n f rest → s.line.state = .run → lookup s f.fields.tag = some r →
       (s.stations[n].claim ≠ some f.fields.tag → refused .notPermitted)
       ∧ (s.stations[n].claim = some f.fields.tag →
         (r.stage ≠ .vacuumHold → r.stage ≠ .claimed → refused .badStage)
         ∧ (r.stage = .vacuumHold ∨ r.stage = .claimed →
           ((∀ e ∈ r.holds, e.reason ≠ .leak) → refused .badStage)
           ∧ ((∃ e ∈ r.holds, e.reason = .leak) → (∃ e ∈ r.holds, e.reason ≠ .leak) → refused .notEligible)
           ∧ ((∃ e ∈ r.holds, e.reason = .leak) → (∀ e ∈ r.holds, e.reason = .leak) → boundVessel s f.fields.tag ≠ none →
               refused .busy))))
  ∧ (∀ (s : State) (n : Node) (f : Frame) (rest : List Frame) (r : Record) (c : Stream) (e : HoldEntry),
       FromStation s .reEvacuate n f rest → s.line.state = .run → lookup s f.fields.tag = some r →
       s.stations[n].claim = some f.fields.tag → r.stage = .vacuumHold ∨ r.stage = .claimed →
       r.holds = [e] → e.reason = .leak → boundVessel s f.fields.tag = none → r.cls = classOfStream c →
       (s.cfg.reevacMax ≤ r.reevacUsed →
         exec .reEvacuate s = .next (answeredWith (popped s rest) (refusedFrame (nodeNumber n) 0x1B .notPermitted)))
       ∧ (r.reevacUsed < s.cfg.reevacMax → f.fields.tag ∉ s.zu.intake → f.fields.tag ∉ s.zu.buffer →
         exec .reEvacuate s = .next (answeredWith
           (grantAttempt { popped s rest with
             records := s.records.map fun x => if x.tag = f.fields.tag then
               { x with
                 reevacUsed := x.reevacUsed + 1
                 holds := x.holds.filter (·.reason != .leak)
                 stage := .waitInlet } else x
             vu := match c with
               | .h => { s.vu with inqH := s.vu.inqH ++ [⟨n, f.fields.tag⟩] }
               | .f => { s.vu with inqF := s.vu.inqF ++ [⟨n, f.fields.tag⟩] } } c)
           (queuedFrame (nodeNumber n) 0x1B (.inlet c ((inletQueue s c).length + 1))))))

/-- A Pressure report on the sender's own record stores latest_pressure, limited to 200,000 Pa and stamped; in HOLD_OPEN it is also the last
reading and, if it is the first, the baseline, and counts; in another progress state it counts for nothing more (R94, R95). -/
def Obligations.PressureReportCounts : Prop :=
  ∀ (s : State) (n : Node) (f : Frame) (rest : List Frame) (r : Record),
    FromStation s .pressure n f rest → lookup s f.fields.tag = some r →
    (s.stations[n].claim ≠ some f.fields.tag →
      exec .pressure s = .next (answeredWith (popped s rest) (refusedFrame (nodeNumber n) 0x1A .notPermitted)))
    ∧ (s.stations[n].claim = some f.fields.tag →
      ∃ pa : Nat, pa = min f.fields.pressure 200000
        ∧ exec .pressure s = .next (answeredWith
          { popped s rest with
            stations := s.stations.set n { s.stations[n] with latestPressure := some (pa, s.clock) }
            progress := s.progress.set n (if s.progress[n].state = .holdOpen then
              { s.progress[n] with
                baseline := match s.progress[n].baseline with | some b => some b | none => some (pa, s.clock)
                last := some (pa, s.clock)
                reports := min (s.progress[n].reports + 1) 65535 } else s.progress[n]) }
          (doneFrame (nodeNumber n) 0x1A (.pressure pa s.progress[n].state))))

/-- A passage event of a RELEASED lane gate moves the record in passage to the tail of its lane, ROUTED and stamped, returns the gate to
IDLE and brings a routing attempt (R33). At an IDLE or BLOCKED gate the event sets the gate BLOCKED and moves nothing (R35). While an expiry
of the passage channel waits whose deadline is at or before the clock at which the event was delivered, the event is not due: ZU takes first
what was delivered first (R87; that a command not due changes nothing is assumption 1). That of an expiry and an event of the same
millisecond the expiry comes first is the model's choice, assumption 36. The expiry returns a RELEASED gate to IDLE and raises JAM with
raised_by 0 on the record, which stays where it is; a lane gate brings a routing attempt (R34); at FEED_GATE CS makes a selection attempt
that passes the record over, and HOLD RAISED is placed after what that attempt sends (R47, R162, R155). A passage event that waits there is
overdue: FEED_GATE is not released again before it is taken, so that it finds the gate IDLE (R87, R47; assumption 37). -/
def Obligations.LanePassageOrTimeoutEndsRelease : Prop :=
  (∀ (s : State) (l : Lane) (e : PassageEvent), s.tu.passages.find? (·.gate == .lane l) = some e →
     (∀ d : Clock, (s.tu.passage.get (.lane l)).expiry = some d → reached e.delivered d = true →
       exec (.passage (.lane l)) s = .next s)
     ∧ ((∀ d : Clock, (s.tu.passage.get (.lane l)).expiry = some d → reached e.delivered d = false) →
       (∀ t : Tag, s.zu.gates.get (.lane l) = ⟨.released, true, some t⟩ →
         exec (.passage (.lane l)) s = .next (routingAttempt { s with
           tu.passages := s.tu.passages.erase e
           tu.passage := s.tu.passage.set (.lane l) ⟨.idle, none⟩
           zu.gates := s.zu.gates.set (.lane l) ⟨.idle, false, none⟩
           zu.intake := s.zu.intake.filter (· != t)
           zu.lanes := s.zu.lanes.set l (s.zu.lanes.get l ++ [t])
           records := s.records.map fun r => if r.tag = t then { r with stage := .routed, routeStamp := some e.stamp } else r }))
       ∧ ((s.zu.gates.get (.lane l)).state ≠ .released →
         exec (.passage (.lane l)) s = .next { s with
           tu.passages := s.tu.passages.erase e
           zu.gates := s.zu.gates.set (.lane l) ⟨.blocked, false, none⟩ })))
  ∧ (∀ (s : State) (g : Gate) (t : Tag) (d : Clock) (u : State),
       (s.tu.passage.get g).expiry = some d → s.zu.gates.get g = ⟨.released, true, some t⟩ →
       u = { s with
         tu.passage := s.tu.passage.set g ⟨.idle, none⟩
         zu.gates := s.zu.gates.set g ⟨.idle, false, none⟩ } →
       (∀ l : Lane, g = .lane l → exec (.passageTimeout g) s = .next (routingAttempt (raiseHold u t .jam 0)))
       ∧ ∀ (r : Record) (v : State), g = .feed → lookup s t = some r →
         v = { u with tu.passages := s.tu.passages.map fun x => if x.gate = .feed then { x with overdue := true } else x } →
         (carries r .jam = true → exec (.passageTimeout g) s = .next (selectionAttempt v))
         ∧ (carries r .jam = false → r.stage ≠ .waitInlet →
           exec (.passageTimeout g) s = .next (placeNotice
             (selectionAttempt { v with
               records := s.records.map fun x => if x.tag = t then { x with holds := x.holds ++ [⟨.jam, 0, s.clock⟩] } else x })
             14 (.holdRaised t .jam 0 r.stage (placeOf s t) (holdMarks { r with holds := r.holds ++ [⟨.jam, 0, s.clock⟩] })))))

/-- A passage event of the RELEASED FEED_GATE moves the record from BUFFER to the tail of CHAMBER and hands CS the admission: an empty batch
list takes a new batch number and starts the load channel, each candidate barred ahead of the record gains one skip, up to 3, the record
becomes BATCHED with that number and joins the batch list, a foam class other than H adds to ff_count; a full batch closes loading, else CS
selects again (R46, R162). At an IDLE or BLOCKED gate the gate becomes BLOCKED (R35). While an expiry of the passage channel waits whose
deadline is at or before the clock at which the event was delivered, the event is not due (R87; that a command not due changes nothing is
assumption 1). That of an expiry and an event of the same millisecond the expiry comes first is the model's choice, assumption 36. A
candidate and a barred one are as SelectionChoosesTheNextRecord spells them out (R161). -/
def Obligations.FeedPassageAdmitsRecord : Prop :=
  ∀ (s : State) (e : PassageEvent), s.tu.passages.find? (·.gate == .feed) = some e →
    (∀ d : Clock, s.tu.passage.feed.expiry = some d → reached e.delivered d = true → exec (.passage .feed) s = .next s)
    ∧ ((∀ d : Clock, s.tu.passage.feed.expiry = some d → reached e.delivered d = false) →
    (∀ (t : Tag) (r : Record) (ahead behind : List Tag), s.zu.gates.feed = ⟨.released, true, some t⟩ → lookup s t = some r →
      s.zu.buffer = ahead ++ t :: behind → s.zu.buffer.Nodup →
      ∃ (k : Nat) (u : State),
        k = (if s.cs.batchList = [] then (if s.cs.batchCounter = 65535 then 1 else s.cs.batchCounter + 1) else s.cs.batchCounter)
        ∧ u = { s with
          tu.passages := s.tu.passages.erase e
          tu.passage := s.tu.passage.set .feed ⟨.idle, none⟩
          tu.load := if s.cs.batchList = [] then chStart (s.clock + sec s.cs.working.loadWait) else s.tu.load
          zu.gates := s.zu.gates.set .feed ⟨.idle, false, none⟩
          zu.buffer := ahead ++ behind
          zu.chamber := s.zu.chamber ++ [t]
          cs.batchCounter := k
          cs.batchList := s.cs.batchList ++ [t]
          cs.ffCount := s.cs.ffCount + (if r.foamClass = .h then 0 else 1)
          records := u.records }
        ∧ u.records.map (·.tag) = s.records.map (·.tag)
        ∧ (∀ (x : Tag) (y : Record), lookup s x = some y →
          lookup u x = some
            (if x = t then { y with stage := .batched, batch := some k }
             else if x ∈ ahead ∧ isCandidate s x = true ∧ isBarred s x = true then
               { y with skipCount := min (y.skipCount + 1) 3 }
             else y))
        ∧ exec (.passage .feed) s = .next (if s.cs.working.batchSize ≤ s.cs.batchList.length + 1 then closeLoading u .batchFull
            else selectionAttempt u))
    ∧ (s.zu.gates.feed.state ≠ .released →
      exec (.passage .feed) s = .next { s with
        tu.passages := s.tu.passages.erase e
        zu.gates := s.zu.gates.set .feed ⟨.blocked, false, none⟩ }))

/-- Gate Clear (R36): from the supervisor in every line state, a station NOT_PERMITTED; index 0 to 3 names LANE_A, LANE_B, LANE_C and FEED_GATE, any
other is BAD_VALUE. A BLOCKED gate becomes IDLE, with a routing attempt for a lane gate and CS told for FEED_GATE; an IDLE gate is left; a
RELEASED one is BUSY. No record and no hold is touched but by those attempts. -/
def Obligations.GateClearByState : Prop :=
  ∀ (s : State) (f : Frame) (rest : List Frame), HeadIs s .gateClear f rest →
    (∀ m : Node, frameSource f = nodeNumber m → s.stations[m].state = .joined →
      exec .gateClear s = .next (answeredWith (popped s rest) (refusedFrame (nodeNumber m) 0x39 .notPermitted)))
    ∧ (frameSource f = 14 →
      (4 ≤ f.fields.index →
        exec .gateClear s = .next (answeredWith (popped s rest) (refusedFrame 14 0x39 .badValue)))
      ∧ ∀ g : Gate, [Gate.lane .a, .lane .b, .lane .c, .feed][f.fields.index]? = some g →
        exec .gateClear s = .next (match (s.zu.gates.get g).state with
          | .idle => answeredWith (popped s rest) (doneFrame 14 0x39 .empty)
          | .released => answeredWith (popped s rest) (refusedFrame 14 0x39 .busy)
          | .blocked => answeredWith
              ((match g with | .lane _ => routingAttempt | .feed => selectionAttempt)
                { popped s rest with zu.gates := s.zu.gates.set g ⟨.idle, false, none⟩ })
              (doneFrame 14 0x39 .empty)))

/-- A routing attempt releases a gate for the INTAKE head exactly when the line is RUN, no lane gate is RELEASED, the head has no hold and
some lane is a candidate (R29, R30): the chosen lane is a candidate with the fewest records, the earliest of equals, its gate becomes
RELEASED with the record in passage, its passage channel runs passage_timeout, and a BROKEN slot becomes STANDING (R31, R86). Otherwise
nothing changes. A lane is a candidate when its rating covers the class ({H} covers H and N, {H, F} every class), for class U a JOINED
station on it has SNIFF granted, its records and reserved place leave one free, and its gate is IDLE (R30, R26). -/
def Obligations.RoutingChoosesTheShortestLane : Prop :=
  (∀ s : State,
    (∀ (t : Tag) (more : List Tag) (r : Record) (l : Lane), s.line.state = .run →
      (∀ m : Lane, (s.zu.gates.get (.lane m)).state ≠ .released) → s.zu.intake = t :: more → lookup s t = some r →
      r.holds = [] → laneCandidate s r.cls l = true →
      (∀ m : Lane, laneCandidate s r.cls m = true →
        (s.zu.lanes.get l).length < (s.zu.lanes.get m).length
          ∨ ((s.zu.lanes.get l).length = (s.zu.lanes.get m).length
              ∧ (l = .a ∨ l = m ∨ (l = .b ∧ m = .c)))) →
      routingAttempt s = { s with
        zu.gates := s.zu.gates.set (.lane l) ⟨.released, true, some t⟩
        tu.passage := s.tu.passage.set (.lane l) (chStart (s.clock + sec s.cfg.passageTimeout))
        tu.slots := if s.tu.slots.get (.lane l) = .broken then s.tu.slots.set (.lane l) .standing else s.tu.slots })
    ∧ (s.line.state ≠ .run ∨ (∃ m : Lane, (s.zu.gates.get (.lane m)).state = .released) ∨ s.zu.intake = []
        ∨ (∃ (t : Tag) (more : List Tag) (r : Record), s.zu.intake = t :: more ∧ lookup s t = some r
            ∧ (r.holds ≠ [] ∨ ∀ l : Lane, laneCandidate s r.cls l = false)) →
      routingAttempt s = s))
  ∧ ∀ (s : State) (c : Sys2Proof.Class) (l : Lane), laneCandidate s c l = true ↔
      (s.cfg.ratings.get l = .hf ∨ (s.cfg.ratings.get l = .h ∧ (c = .h ∨ c = .n)))
      ∧ (c = .u → ∃ n : Node, s.stations[n].state = .joined ∧ s.stations[n].lane = some l ∧ s.stations[n].granted.sniff = true)
      ∧ (s.zu.lanes.get l).length + (if (s.zu.gates.get (.lane l)).passing = none then 0 else 1) < s.cfg.capLanes.get l
      ∧ (s.zu.gates.get (.lane l)).state = .idle

/-- A selection attempt in LOADING, in RUN with FEED_GATE IDLE: a first candidate barred with skip_count 3 closes loading by the skip rule
when the batch list is not empty; else the first candidate that is not barred gets FEED_GATE released for it, where CHAMBER has a free place
and no overdue passage event waits (the latter is the model's choice, assumption 37); with none, whether BUFFER has no candidate or only
barred ones, an expired load wait closes loading when the batch list is not empty, and else CS waits. A record is a candidate without a hold
and with a verdict other than NONE, and is barred with foam class F or U while ff_count equals f_foam_max. Outside these conditions nothing
changes (R161, R163, R45). -/
def Obligations.SelectionChoosesTheNextRecord : Prop :=
  (∀ s : State,
     (s.cs.phase ≠ .loading ∨ s.line.state ≠ .run ∨ s.zu.gates.feed.state ≠ .idle → selectionAttempt s = s)
     ∧ (s.cs.phase = .loading → s.line.state = .run → s.zu.gates.feed.state = .idle →
       ∀ cands : List Tag, cands = s.zu.buffer.filter (isCandidate s) →
       (∀ (t : Tag) (more : List Tag) (r : Record), cands = t :: more → lookup s t = some r → isBarred s t = true →
         r.skipCount = 3 → s.cs.batchList ≠ [] →
         selectionAttempt s = enterSealing { s with tu.load := ⟨.idle, none⟩ } .skipRule)
       ∧ (∀ (before after : List Tag) (t : Tag), cands = before ++ t :: after → isBarred s t = false →
         (∀ x ∈ before, isBarred s x = true) →
         (∀ (x : Tag) (more : List Tag) (y : Record), before = x :: more → lookup s x = some y →
           y.skipCount ≠ 3 ∨ s.cs.batchList = []) →
         selectionAttempt s = if s.zu.chamber.length + (if s.zu.gates.feed.passing = none then 0 else 1) < 4
             ∧ ∀ e ∈ s.tu.passages, ¬(e.gate = .feed ∧ e.overdue = true) then
           { s with
             zu.gates := s.zu.gates.set .feed ⟨.released, true, some t⟩
             tu.passage := s.tu.passage.set .feed (chStart (s.clock + sec s.cfg.passageTimeout))
             tu.slots := if s.tu.slots.feed = .broken then s.tu.slots.set .feed .standing else s.tu.slots }
           else s)
       ∧ ((∀ x ∈ cands, isBarred s x = true) →
         (∀ (x : Tag) (more : List Tag) (y : Record), cands = x :: more → lookup s x = some y →
           y.skipCount ≠ 3 ∨ s.cs.batchList = []) →
         selectionAttempt s = if s.cs.loadExpired = true ∧ s.cs.batchList ≠ [] then
           enterSealing { s with tu.load := ⟨.idle, none⟩ } .loadWait else s)))
  ∧ ∀ (s : State) (t : Tag),
      (∀ r : Record, lookup s t = some r →
        (isCandidate s t = true ↔ r.holds = [] ∧ r.verdict ≠ .none)
        ∧ (isBarred s t = true ↔ (r.foamClass = .f ∨ r.foamClass = .u) ∧ s.cs.ffCount = s.cs.working.fFoamMax))
      ∧ (lookup s t = none → isCandidate s t = false ∧ isBarred s t = false)

/-! ## Configuration and reports -/

/-- A Config Write of a line item clamps the value into the item's range, which is written out item by item, and stores it, all other items
staying, and answers it as stored; it is refused with BAD_VALUE, changing nothing, where hold_end would not be above hold_delay or
complete_min not below over_max (R202, R93). A dwell is clamped to 10 to 600 s and an oil fraction to 0 to 200 (R124, R202). A capacity or a
rating outside CONFIG is LINE_STATE. In CONFIG a capacity is set where it lies in its zone's range, is not below the zone's occupancy, and
all capacities with the 9 station positions and 4 chamber places come to at most 64, and is else refused with BAD_VALUE; a rating is stored
(R25, R30, R202). A recipe item or no item is BAD_VALUE. -/
def Obligations.ConfigWriteSetsLineAndZoneItems : Prop :=
  (∀ (s : State) (f : Frame) (rest : List Frame), FromSupervisor s .configWrite f rest →
     (∀ (i : LineItem) (v : Int), f.fields.item = some (.config (.line i)) → f.fields.value = .number v →
       ∃ (x : Nat) (c : ConfigTables),
         (x : Int) = max ((lineRange i).1 : Int) (min v ((lineRange i).2 : Int))
         ∧ (∀ j : LineItem, lineValue c j = if j = i then x else lineValue s.cfg j)
         ∧ c.dwellH = s.cfg.dwellH ∧ c.dwellF = s.cfg.dwellF ∧ c.oilPmH = s.cfg.oilPmH ∧ c.oilPmF = s.cfg.oilPmF
         ∧ c.capIntake = s.cfg.capIntake ∧ c.capLanes = s.cfg.capLanes ∧ c.capBuffer = s.cfg.capBuffer
         ∧ c.capExit = s.cfg.capExit ∧ c.ratings = s.cfg.ratings
         ∧ exec .configWrite s = .next (if c.holdDelay < c.holdEnd ∧ c.completeMin < c.overMax then
             answeredWith { popped s rest with cfg := c } (doneFrame 14 0x21 (.stored (.number x)))
           else answeredWith (popped s rest) (refusedFrame 14 0x21 .badValue)))
     ∧ (∀ (c : Stream) (v : Int) (x : Nat), f.fields.item = some (.config (.dwell c)) → f.fields.value = .number v →
       (x : Int) = max 10 (min v 600) →
       exec .configWrite s = .next (answeredWith
         { popped s rest with cfg := match c with | .h => { s.cfg with dwellH := x } | .f => { s.cfg with dwellF := x } }
         (doneFrame 14 0x21 (.stored (.number x)))))
     ∧ (∀ (c : Stream) (v : Int) (x : Nat), f.fields.item = some (.config (.oilPm c)) → f.fields.value = .number v →
       (x : Int) = max 0 (min v 200) →
       exec .configWrite s = .next (answeredWith
         { popped s rest with cfg := match c with | .h => { s.cfg with oilPmH := x } | .f => { s.cfg with oilPmF := x } }
         (doneFrame 14 0x21 (.stored (.number x)))))
     ∧ (∀ z : CapZone, f.fields.item = some (.config (.capacity z)) → s.line.state ≠ .config →
       exec .configWrite s = .next (answeredWith (popped s rest) (refusedFrame 14 0x21 .lineState)))
     ∧ (∀ (z : CapZone) (v : Nat) (c : ConfigTables), f.fields.item = some (.config (.capacity z)) → s.line.state = .config →
       f.fields.value = .number v →
       c = (match z with
         | .intake => { s.cfg with capIntake := v }
         | .lane l => { s.cfg with capLanes := s.cfg.capLanes.set l v }
         | .buffer => { s.cfg with capBuffer := v }
         | .exit => { s.cfg with capExit := v }) →
       exec .configWrite s = .next
         (if 1 ≤ v ∧ v ≤ (match z with | .intake => 16 | .lane _ => 12 | .buffer => 24 | .exit => 16)
             ∧ (match z with
                 | .intake => s.zu.intake | .lane l => s.zu.lanes.get l | .buffer => s.zu.buffer | .exit => s.zu.exit).length ≤ v
             ∧ c.capIntake + c.capLanes.a + c.capLanes.b + c.capLanes.c + c.capBuffer + c.capExit + 9 + 4 ≤ 64 then
           answeredWith { popped s rest with cfg := c } (doneFrame 14 0x21 (.stored (.number v)))
         else answeredWith (popped s rest) (refusedFrame 14 0x21 .badValue)))
     ∧ (∀ (l : Lane) (r : Rating), f.fields.item = some (.config (.rating l)) → f.fields.value = .rating r →
       exec .configWrite s = .next
         (if s.line.state = .config then
           answeredWith { popped s rest with cfg.ratings := s.cfg.ratings.set l r } (doneFrame 14 0x21 (.stored (.rating r)))
         else answeredWith (popped s rest) (refusedFrame 14 0x21 .lineState)))
     ∧ (f.fields.item = none ∨ (∃ (b : Bool) (i : RecipeItem), f.fields.item = some (.recipe b i)) →
       exec .configWrite s = .next (answeredWith (popped s rest) (refusedFrame 14 0x21 .badValue))))
  ∧ ∀ c : ConfigTables,
      [LineItem.passageTimeout, .heartbeatTimeout, .filterTime, .slotInterval, .holdDelay, .holdEnd, .riseLimit, .reevacMax,
        .negTolerance, .completeMin, .overMax, .reconcileWindow].map (fun i => (lineRange i, lineValue c i))
      = [((2, 30), c.passageTimeout), ((500, 30000), c.heartbeatTimeout), ((5, 100), c.filterTime), ((10, 500), c.slotInterval),
         ((1, 60), c.holdDelay), ((5, 300), c.holdEnd), ((0, 20000), c.riseLimit), ((0, 3), c.reevacMax),
         ((0, 500), c.negTolerance), ((500, 1500), c.completeMin), ((500, 1500), c.overMax), ((10, 600), c.reconcileWindow)]

/-- A Config Write of an item of an OFFLINE vessel stores it: the stream class, capacity_g clamped to 1,000 to 60,000, fill_pm to 500 to
950, settle_s to 1 to 10, a scale_sensor from 0 to 15, another being BAD_VALUE; a vessel not OFFLINE is BAD_STAGE (R106, R202). An identity
item of a disabled sensor entry is stored: an address from 8 to 119, a sample_index, a zero, a span clamped to 1 to 4,095, a kind with its
default thresholds (R140; the pair that SCALE then holds is assumption 20, values outside the range of sample_index and zero assumption 21);
an enabled one is BAD_STAGE. A threshold of O2, LEL or TEMP is clamped into the range of the kind and stored, enabled or not, unless
deassert would not be below assert, which is BAD_VALUE, as every threshold of SCALE is (R140). Writing the enabled mark that stands changes
nothing; enabling clears the readings and hands CS the change; disabling clears them, discards a poll in flight, hands CS the change and
answers every pending request unusable (R141, R150, R151; assumption 32). -/
def Obligations.ConfigWriteSetsVesselAndSensorItems : Prop :=
  ∀ (s : State) (f : Frame) (rest : List Frame), FromSupervisor s .configWrite f rest →
    ∀ refused taken : State → Value → Host.Outcome State Fault Refusal,
    refused = (fun _ _ => .next (answeredWith (popped s rest) (refusedFrame 14 0x21 .badValue))) →
    taken = (fun u v => .next (answeredWith u (doneFrame 14 0x21 (.stored v)))) →
    (∀ (v : VesselIx) (i : VesselItem), f.fields.item = some (.config (.vessel v.val i)) →
      (s.vu.vessels[v].state ≠ .offline →
        exec .configWrite s = .next (answeredWith (popped s rest) (refusedFrame 14 0x21 .badStage)))
      ∧ (s.vu.vessels[v].state = .offline → ∀ put : Vessel → State, put = (fun x => { popped s rest with
            vu.vessels := s.vu.vessels.set v x }) →
        (∀ c : Stream, i = .streamClass → f.fields.value = .stream c →
          exec .configWrite s = taken (put { s.vu.vessels[v] with streamClass := c }) (.stream c))
        ∧ ∀ (k : Int) (x : Nat), f.fields.value = .number k →
          (i = .capacityG → (x : Int) = max 1000 (min k 60000) →
            exec .configWrite s = taken (put { s.vu.vessels[v] with capacityG := x }) (.number x))
          ∧ (i = .fillPm → (x : Int) = max 500 (min k 950) →
            exec .configWrite s = taken (put { s.vu.vessels[v] with fillPm := x }) (.number x))
          ∧ (i = .settleS → (x : Int) = max 1 (min k 10) →
            exec .configWrite s = taken (put { s.vu.vessels[v] with settleS := x }) (.number x))
          ∧ (i = .scaleSensor → k < 0 ∨ 15 < k → exec .configWrite s = refused s .absent)
          ∧ ∀ j : SensorIx, i = .scaleSensor → k = j.val →
            exec .configWrite s = taken (put { s.vu.vessels[v] with scaleSensor := j }) (.number j.val)))
    ∧ ∀ (j : SensorIx) (e : Sensor) (m : SensorItem) (put : Sensor → State),
      f.fields.item = some (.config (.sensor j.val m)) → e = s.sn.sensors[j] →
      put = (fun x => { popped s rest with sn.sensors := s.sn.sensors.set j x }) →
      (e.enabled = true → m = .address ∨ m = .kind ∨ m = .sampleIndex ∨ m = .zero ∨ m = .span →
        exec .configWrite s = .next (answeredWith (popped s rest) (refusedFrame 14 0x21 .badStage)))
      ∧ (e.enabled = false →
        (∀ k : SensorKind, m = .kind → f.fields.value = .kind k →
          exec .configWrite s = taken (put { e with kind := k, thresholds := match k with
            | .o2 => (250, 240) | .lel => (1000, 990) | .temp => (1000, 990) | .scale => unusedThresholds }) (.kind k))
        ∧ ∀ (k : Int) (x : Nat), f.fields.value = .number k →
          (m = .address → k = x →
            exec .configWrite s = if 8 ≤ x ∧ x ≤ 119 then taken (put { e with address := x }) (.number x) else refused s .absent)
          ∧ (m = .sampleIndex → k = x →
            exec .configWrite s = if x ≤ 255 then taken (put { e with sampleIndex := x }) (.number x) else refused s .absent)
          ∧ (m = .zero → k = x →
            exec .configWrite s = if x ≤ 65535 then taken (put { e with zero := x }) (.number x) else refused s .absent)
          ∧ (m = .span → (x : Int) = max 1 (min k 4095) →
            exec .configWrite s = taken (put { e with span := x }) (.number x)))
      ∧ (∀ (k x : Int), f.fields.value = .number k → m = .assertLimit ∨ m = .deassertLimit →
        (e.kind = .scale → exec .configWrite s = refused s .absent)
        ∧ (e.kind ≠ .scale →
          x = (match e.kind with
            | .o2 => max 0 (min k 250) | .lel => max 0 (min k 1000) | _ => max (-1000) (min k 1000)) →
          (m = .assertLimit → exec .configWrite s = if e.thresholds.2 < x then
            taken (put { e with thresholds := (x, e.thresholds.2) }) (.number x) else refused s .absent)
          ∧ (m = .deassertLimit → exec .configWrite s = if x < e.thresholds.1 then
            taken (put { e with thresholds := (e.thresholds.1, x) }) (.number x) else refused s .absent)))
      ∧ ∀ (b : Bool) (x : Sensor), m = .enabled → f.fields.value = .mark b →
        x = { e with enabled := b, state := .init, latest := none, stale := false, saturated := false, failCount := 0, goodCount := 0 } →
        (e.enabled = b → exec .configWrite s = taken (popped s rest) (.mark b))
        ∧ (e.enabled = false → b = true → exec .configWrite s = taken (chamberSensor (put x) j false) (.mark b))
        ∧ (e.enabled = true → b = false →
          exec .configWrite s = taken (handOutcome { put x with
            sn.inFlight := s.sn.inFlight.map fun p => if p.index = j then { p with discarded := true } else p } j false none)
            (.mark b))

/-- Config Read, Zone Read, Vessel Status and Chamber Status answer DONE from the supervisor with the values held when they are taken and
change nothing but LP's queues (R203, R49, R123, R176; that the chamber's baseline goes out with its gross is assumption 39). Config Read
gives every item of the tables, of either recipe with the commit mark, and of the line state; an item that names nothing, an entry outside
its table, a pattern of SAFE and a threshold of a SCALE entry are BAD_VALUE (the last is assumption 20). That the zero and span of an entry
of kind O2, LEL or TEMP are answered as stored is the model's choice, assumption 41. Zone Read gives every zone with its occupancy,
capacity, reserved mark and the state of the gate in front of it; a zone code above 7, STATION with a node whose entry is not EXTRACT, and a
position at or above the capacity are BAD_VALUE. Its second and third frames give the record at the position and at the next, with tag,
stage and hold mark, or none (R49). Vessel Status gives the fill in per mille of the capacity, floored and limited to 0 to 1,999, or 0
without a net, and the settle time left while SETTLING (R123). The zones hold the lists of ZU and the claims of the station positions, and a
record stands where a list holds it (R5, R24, R25, R27). -/
def Obligations.ReportsChangeNothing : Prop :=
  (∀ (s : State) (f : Frame) (rest : List Frame),
     (FromSupervisor s .configRead f rest →
       ∃ answer : Option Result,
         exec .configRead s = .next (answeredWith (popped s rest) (match answer with
           | some r => doneFrame 14 0x22 r
           | none => refusedFrame 14 0x22 .badValue))
         ∧ (∀ i : LineItem, f.fields.item = some (.config (.line i)) → answer = some (.stored (.number (lineValue s.cfg i))))
         ∧ (∀ c : Stream, f.fields.item = some (.config (.dwell c)) →
             answer = some (.stored (.number (match c with | .h => s.cfg.dwellH | .f => s.cfg.dwellF : Nat))))
         ∧ (∀ c : Stream, f.fields.item = some (.config (.oilPm c)) →
             answer = some (.stored (.number (match c with | .h => s.cfg.oilPmH | .f => s.cfg.oilPmF : Nat))))
         ∧ (∀ z : CapZone, f.fields.item = some (.config (.capacity z)) →
             answer = some (.stored (.number (match z with
               | .intake => s.cfg.capIntake | .lane l => s.cfg.capLanes.get l | .buffer => s.cfg.capBuffer
               | .exit => s.cfg.capExit : Nat))))
         ∧ (∀ l : Lane, f.fields.item = some (.config (.rating l)) → answer = some (.stored (.rating (s.cfg.ratings.get l))))
         ∧ (∀ (v : VesselIx) (i : VesselItem), f.fields.item = some (.config (.vessel v.val i)) →
             answer = some (.stored (match i with
               | .streamClass => .stream s.vu.vessels[v].streamClass
               | .capacityG => .number s.vu.vessels[v].capacityG
               | .fillPm => .number s.vu.vessels[v].fillPm
               | .scaleSensor => .number s.vu.vessels[v].scaleSensor.val
               | .settleS => .number s.vu.vessels[v].settleS)))
         ∧ (∀ (j : SensorIx) (m : SensorItem), f.fields.item = some (.config (.sensor j.val m)) →
             answer = (match m with
               | .enabled => some (.stored (.mark s.sn.sensors[j].enabled))
               | .address => some (.stored (.number s.sn.sensors[j].address))
               | .kind => some (.stored (.kind s.sn.sensors[j].kind))
               | .sampleIndex => some (.stored (.number s.sn.sensors[j].sampleIndex))
               | .zero => some (.stored (.number s.sn.sensors[j].zero))
               | .span => some (.stored (.number s.sn.sensors[j].span))
               | .assertLimit => if s.sn.sensors[j].kind = .scale then none
                   else some (.stored (.number s.sn.sensors[j].thresholds.1))
               | .deassertLimit => if s.sn.sensors[j].kind = .scale then none
                   else some (.stored (.number s.sn.sensors[j].thresholds.2))))
         ∧ (∀ (staged : Bool) (r : Recipe), r = (if staged = true then s.cs.staged else s.cs.working) →
             (∀ p : Param, f.fields.item = some (.recipe staged (.param p)) →
               answer = some (.recipe (.number (paramValue r p)) s.cs.commitMark))
             ∧ (∀ n : SensorName, f.fields.item = some (.recipe staged (.sensorName n)) →
               answer = some (.recipe (match n with
                 | .o2 => .number r.o2Sensor.val
                 | .lel1 => .number r.lel1Sensor.val
                 | .lel2 => match r.lel2Sensor with | some i => .number i.val | none => .absent
                 | .trap => .number r.trapSensor.val
                 | .condensate => .number r.condensateSensor.val) s.cs.commitMark))
             ∧ (∀ (p : Phase) (o : Output), p ≠ .safe → f.fields.item = some (.recipe staged (.pattern p (some o))) →
               answer = some (.recipe (.drive (rowDrive (patternOf r p) o)) s.cs.commitMark)))
         ∧ (∀ i : StatusItem, f.fields.item = some (.status i) → answer = some (match i with
             | .lineState => .lineState s.line.state
             | .estopActive => .stored (.mark s.line.estopActive)
             | .windowExpired => .stored (.mark s.line.windowExpired)
             | .reconcileRemaining => .stored (.number (match s.tu.reconcile.run with
                 | .running d => if reached s.clock d = true then 0 else (d - s.clock).toNat
                 | .frozen r => r | .idle => 0 : Nat))))
         ∧ (f.fields.item = none
             ∨ (∃ (k : Nat) (i : VesselItem), 4 ≤ k ∧ f.fields.item = some (.config (.vessel k i)))
             ∨ (∃ (k : Nat) (m : SensorItem), 16 ≤ k ∧ f.fields.item = some (.config (.sensor k m)))
             ∨ (∃ (b : Bool) (p : Phase), f.fields.item = some (.recipe b (.pattern p none)))
             ∨ (∃ (b : Bool) (o : Output), f.fields.item = some (.recipe b (.pattern .safe (some o)))) → answer = none))
     ∧ (FromSupervisor s .zoneRead f rest →
       (8 ≤ f.fields.zoneCode ∨ (f.fields.zoneCode = 4 ∧ ∀ n : Node, f.fields.node = nodeNumber n → s.stations[n].kind ≠ some .extract) →
         exec .zoneRead s = .next (answeredWith (popped s rest) (refusedFrame 14 0x2B .badValue)))
       ∧ ∀ p : Place, f.fields.zoneCode = placeCode p →
         (∀ n : Node, p = .station n → f.fields.node = nodeNumber n ∧ s.stations[n].kind = some .extract) →
         (capacity s p ≤ f.fields.position →
           exec .zoneRead s = .next (answeredWith (popped s rest) (refusedFrame 14 0x2B .badValue)))
         ∧ (f.fields.position < capacity s p →
           exec .zoneRead s = .next { popped s rest with lp.answers := s.lp.answers ++
             [⟨14, 0, .head .done none 0x2B (.zone p (zoneList s p).length (capacity s p)
                 (match p with
                   | .lane l => (s.zu.gates.get (.lane l)).passing.isSome
                   | .chamber => s.zu.gates.feed.passing.isSome
                   | _ => false)
                 (match p with
                   | .lane l => some (s.zu.gates.get (.lane l)).state
                   | .chamber => some s.zu.gates.feed.state
                   | _ => none))⟩,
              ⟨14, 1, .more (.zoneSlot (zoneSlot s p f.fields.position))⟩,
              ⟨14, 2, .more (.zoneSlot (zoneSlot s p (f.fields.position + 1)))⟩] }))
     ∧ (FromSupervisor s .vesselStatus f rest →
       (4 ≤ f.fields.index →
         exec .vesselStatus s = .next (answeredWith (popped s rest) (refusedFrame 14 0x2D .badValue)))
       ∧ ∀ v : VesselIx, f.fields.index = v.val →
       exec .vesselStatus s = .next { popped s rest with lp.answers := s.lp.answers ++
         [⟨14, 0, .head .done none 0x2D (.vesselEntry s.vu.vessels[v].state s.vu.vessels[v].streamClass s.vu.vessels[v].faultCause
             ((s.vu.vessels[v].bound.map (·.1)).getD 0) (nodeCode (s.vu.vessels[v].bound.map (·.2))) (settleRemaining s v))⟩,
          ⟨14, 1, .more (.vesselFill s.vu.vessels[v].capacityG (s.vu.vessels[v].capacityG * s.vu.vessels[v].fillPm / 1000)
             s.vu.vessels[v].tareG s.vu.vessels[v].netG (fillPerMille s.vu.vessels[v]))⟩,
          ⟨14, 2, .more (.vesselQueue s.vu.vessels[v].bookedTotalG s.vu.vessels[v].baselineGross
             (inletQueue s s.vu.vessels[v].streamClass).length
             (nodeCode ((inletQueue s s.vu.vessels[v].streamClass).head?.map (·.node)))
             (((inletQueue s s.vu.vessels[v].streamClass).head?.map (·.tag)).getD 0))⟩] })
     ∧ (FromSupervisor s .chamberStatus f rest →
       exec .chamberStatus s = .next { popped s rest with lp.answers := s.lp.answers ++
         [⟨14, 0, .head .done none 0x2F (.chamberPhase s.cs.phase s.cs.step (reportedRun s.tu.phase)
             (remainingMs s.clock s.tu.phase / 1000) (remainingMs s.clock s.tu.pause / 1000) s.cs.shredDone s.cs.loadExpired)⟩,
          ⟨14, 1, .more (.chamberBatch (if s.cs.batchList = [] then 0 else s.cs.batchCounter) s.cs.batchList.length s.cs.ffCount
             s.cs.commitMark s.tu.door.filtered)⟩,
          ⟨14, 2, .more (.chamberGas (effectiveLel s) (latestO2 s) (o2Unusable s) (latestTrap s) (!trapUsable s) (gasFailed s)
             s.cs.outputs.shredDrive)⟩,
          ⟨14, 3, .more (.chamberNitrogen s.tu.pwm.staged s.tu.pwm.applied s.cs.baseline s.cs.total)⟩] }))
  ∧ (∀ (s : State) (p : Place) (k : Nat),
       ((zoneList s p)[k]? = none → zoneSlot s p k = none)
       ∧ ∀ t : Tag, (zoneList s p)[k]? = some t →
         (lookup s t = none → zoneSlot s p k = none)
         ∧ ∀ r : Record, lookup s t = some r → zoneSlot s p k = some ⟨r.tag, r.stage, decide (r.holds ≠ [])⟩)
  ∧ (∀ v : Vessel, (v.netG = none → fillPerMille v = 0)
       ∧ ∀ net : Int, v.netG = some net →
         (fillPerMille v : Int) = max 0 (min (Int.fdiv (net * 1000) v.capacityG) 1999))
  ∧ (∀ (s : State) (v : VesselIx), settleRemaining s v = if s.vu.vessels[v].state = .settling then
       (match s.tu.settle[v].run with
         | .running d => if reached s.clock d = true then 0 else (d - s.clock).toNat
         | .frozen r => r | .idle => 0)
       else 0)
  ∧ ∀ s : State,
      zoneList s .intake = s.zu.intake ∧ zoneList s .buffer = s.zu.buffer ∧ zoneList s .chamber = s.zu.chamber
      ∧ zoneList s .exit = s.zu.exit ∧ capacity s .intake = s.cfg.capIntake ∧ capacity s .buffer = s.cfg.capBuffer
      ∧ capacity s .chamber = 4 ∧ capacity s .exit = s.cfg.capExit
      ∧ (∀ l : Lane, zoneList s (.lane l) = s.zu.lanes.get l ∧ capacity s (.lane l) = s.cfg.capLanes.get l)
      ∧ (∀ n : Node, capacity s (.station n) = 1
          ∧ zoneList s (.station n) = match s.stations[n].claim with | some t => [t] | none => [])
      ∧ ∀ t : Tag, (∀ p : Place, placeOf s t = some p → t ∈ zoneList s p) ∧ (placeOf s t = none → ∀ p : Place, t ∉ zoneList s p)

/-- Record Read answers DONE in five frames whose bytes are laid out as R199's table gives, and changes nothing but LP's queues; a tag that
finds no record is UNKNOWN_TAG (R19). The codes of class, foam class, stage, zone, verdict and hold reason and the bits of the hold marks
are written out as 11.6 gives them, and an age is in whole seconds, held at 65,534 for a stamp that is present (R72). Station Status and
Sensor Status report the entry as it stands in three frames and then clear its lost_latch or fault_latch, and change nothing else; a node
outside 1 to 12 or an index outside 0 to 15 is BAD_VALUE (R69, R153). -/
def Obligations.RecordReadAndStatusReads : Prop :=
  (∀ (s : State) (f : Frame) (rest : List Frame), FromSupervisor s .recordRead f rest →
     (lookup s f.fields.tag = none →
       exec .recordRead s = .next (answeredWith (popped s rest) (refusedFrame 14 0x2A .unknownTag)))
     ∧ ∀ (r : Record) (p : Place), lookup s f.fields.tag = some r → placeOf s r.tag = some p →
       exec .recordRead s = .next { popped s rest with lp.answers := s.lp.answers ++
         [⟨14, 0, .head .done none 0x2A (.bytes
             [byteOf (r.tag.toNat / 2 ^ 24), byteOf (r.tag.toNat / 2 ^ 16), byteOf (r.tag.toNat / 2 ^ 8), byteOf r.tag.toNat,
              byteOf (classCode r.enrolledClass * 64 + classCode r.cls * 16 + foamCode r.foamClass * 4)])⟩,
          ⟨14, 1, .more (.bytes
             [byteOf r.foamWeight, byteOf (r.declaredCharge.getD 0 / 256), byteOf (r.declaredCharge.getD 0),
              byteOf (stageCode r.stage), byteOf (placeCode p),
              (match p with | .station n => byteOf (n.val + 1) | _ => 0), byteOf (nodeCode r.station),
              (match r.vessel with | some v => byteOf (128 + v.val) | none => 0)])⟩,
          ⟨14, 2, .more (.bytes
             [byteOf r.transfers, byteOf r.reevacUsed, byteOf r.skipCount, byteOf (r.recovered / 256), byteOf r.recovered,
              byteOf (verdictCode r.verdict),
              byteOf ((effectiveDwell s r + (if r.dwellOverride = none then 0 else 2 ^ 15)) / 256),
              byteOf (effectiveDwell s r + (if r.dwellOverride = none then 0 else 2 ^ 15))])⟩,
          ⟨14, 3, .more (.bytes
             [holdMarks r, byteOf (r.batch.getD 0 / 256), byteOf (r.batch.getD 0), byteOf (r.foamShare.getD 0 / 256),
              byteOf (r.foamShare.getD 0), (if r.foamShare = none then 0 else 128),
              byteOf (ageSeconds s.clock r.enrolStamp 65534 / 256), byteOf (ageSeconds s.clock r.enrolStamp 65534)])⟩,
          ⟨14, 4, .more (.bytes
             [byteOf (optAgeSeconds s.clock r.routeStamp / 256), byteOf (optAgeSeconds s.clock r.routeStamp),
              byteOf (optAgeSeconds s.clock r.done1Stamp / 256), byteOf (optAgeSeconds s.clock r.done1Stamp), 0, 0, 0, 0])⟩] })
  ∧ (∀ (s : State) (f : Frame) (rest : List Frame),
       (FromSupervisor s .stationStatus f rest →
         (f.fields.node = 0 ∨ 12 < f.fields.node →
           exec .stationStatus s = .next (answeredWith (popped s rest) (refusedFrame 14 0x2C .badValue)))
         ∧ ∀ n : Node, f.fields.node = nodeNumber n →
           exec .stationStatus s = .next { popped s rest with
             stations := s.stations.set n { s.stations[n] with lostLatch := false }
             lp.answers := s.lp.answers ++
               [⟨14, 0, .head .done none 0x2C (.stationEntry s.stations[n].state s.stations[n].kind s.stations[n].lane
                   s.stations[n].offered s.stations[n].granted s.stations[n].lostLatch)⟩,
                ⟨14, 1, .more (.stationClaim (s.stations[n].claim.getD 0)
                   ((s.stations[n].claim.bind (lookup s)).map fun r => (r.stage, isHeld r)))⟩,
                ⟨14, 2, .more (.stationPressure ((s.stations[n].latestPressure.map (·.1)).getD 0)
                   (match s.stations[n].latestPressure with
                     | some (_, stamp) => min ((s.clock - stamp).toNat / 1000) 65534
                     | none => 65535))⟩] })
       ∧ (FromSupervisor s .sensorStatus f rest →
         (16 ≤ f.fields.index →
           exec .sensorStatus s = .next (answeredWith (popped s rest) (refusedFrame 14 0x2E .badValue)))
         ∧ ∀ i : SensorIx, f.fields.index = i.val →
           exec .sensorStatus s = .next { popped s rest with
             sn.sensors := s.sn.sensors.set i { s.sn.sensors[i] with faultLatch := false }
             lp.answers := s.lp.answers ++
               [⟨14, 0, .head .done none 0x2E (.sensorEntry i s.sn.sensors[i].enabled s.sn.sensors[i].kind s.sn.sensors[i].address
                   s.sn.sensors[i].sampleIndex s.sn.sensors[i].state s.sn.sensors[i].faultLatch s.sn.sensors[i].failCount
                   s.sn.sensors[i].goodCount)⟩,
                ⟨14, 1, .more (.sensorLatest (s.sn.sensors[i].latest.map (·.1)) s.sn.sensors[i].stale s.sn.sensors[i].saturated
                   (match s.sn.sensors[i].latest with
                     | some (_, stamp) => min (s.clock - stamp).toNat 65534
                     | none => 65535))⟩,
                ⟨14, 2, .more (if s.sn.sensors[i].kind = .scale then .sensorScale s.sn.sensors[i].zero s.sn.sensors[i].span
                   else .sensorLimits s.sn.sensors[i].thresholds.1 s.sn.sensors[i].thresholds.2)⟩] }))
  ∧ ([Sys2Proof.Class.h, .f, .n, .u].map classCode = [0, 1, 2, 3] ∧ [FoamClass.h, .f, .u].map foamCode = [0, 1, 3]
     ∧ [Stage.new, .routed, .claimed, .waitInlet, .evacuating, .vacuumHold, .done1, .batched, .rejected].map stageCode
         = [0, 1, 2, 3, 4, 5, 6, 7, 8]
     ∧ [Verdict.none, .complete, .short, .over, .undeclared, .unmeasured, .empty].map verdictCode = [0, 1, 2, 3, 4, 5, 6]
     ∧ [Place.intake, .lane .a, .lane .b, .lane .c, .buffer, .chamber, .exit].map placeCode = [0, 1, 2, 3, 5, 6, 7]
     ∧ (∀ n : Node, placeCode (.station n) = 4 ∧ nodeCode (some n) = n.val + 1) ∧ nodeCode none = 0)
  ∧ (∀ (k : Nat) (h : HoldReason),
       [HoldReason.jam, .stationLost, .classConflict, .leak, .scaleFault, .overYield, .chamberAbort, .manual][k]? = some h →
       holdReasonOfCode k = some h
       ∧ ∀ r : Record, (holdMarks r).getLsbD (7 - k) = true ↔ ∃ e ∈ r.holds, e.reason = h)
  ∧ ∀ (now stamp : Clock) (limit : Nat), ageSeconds now stamp limit = min ((now - stamp).toNat / 1000) limit
       ∧ optAgeSeconds now none = 65535 ∧ optAgeSeconds now (some stamp) = min ((now - stamp).toNat / 1000) 65534

/-- Recipe Write clamps a parameter into its range, written out parameter by parameter, and raises purge_max above a purge_min that reaches
it; sets a sensor name to an entry 0 to 15, or lel2_sensor to none; sets one output of one phase's pattern. The staged recipe alone is
changed, the commit mark cleared, and the value as stored answered. An item that names nothing, another sensor index, the pattern of SAFE,
an unknown output and PWM for another output than N2_PROP are BAD_VALUE and change nothing (R158); so is a value that is no code of its
item, which is assumption 21. Recipe Commit sets the mark exactly when lel_resume < lel_pause < lel_abort, purge_target ≤ o2_shred_max <
o2_abort, SHRED_DRIVE is OFF in every phase pattern but SHREDDING, and DOOR_LOCK is ON in SEALING, PURGING, SHREDDING, PAUSED, CONDENSING
and ABORTED; else it is refused with BAD_VALUE, the mark clear, naming the first of these four that fails (R159). -/
def Obligations.RecipeWriteAndCommit : Prop :=
  (∀ (s : State) (f : Frame) (rest : List Frame), FromSupervisor s .recipeWrite f rest →
     ∀ (old : Recipe) (refused : Host.Outcome State Fault Refusal) (taken : Recipe → Value → Host.Outcome State Fault Refusal),
     old = s.cs.staged →
     refused = .next (answeredWith (popped s rest) (refusedFrame 14 0x23 .badValue)) →
     taken = (fun r v => .next (answeredWith
       { popped s rest with cs.staged := r, cs.commitMark := false } (doneFrame 14 0x23 (.stored v)))) →
     (f.fields.recipeItem = none → exec .recipeWrite s = refused)
     ∧ (∀ p : Param, f.fields.recipeItem = some (.param p) → (∀ v : Int, f.fields.value ≠ .number v) →
       exec .recipeWrite s = refused)
     ∧ (∀ (p : Param) (v : Int), f.fields.recipeItem = some (.param p) → f.fields.value = .number v →
       (paramRange old p).1 ≤ (paramRange old p).2 →
       ∃ (x : Int) (r : Recipe),
         x = max (paramRange old p).1 (min v (paramRange old p).2)
         ∧ paramValue r p = x
         ∧ (∀ q : Param, q ≠ p → q ≠ .purgeMax ∨ p ≠ .purgeMin → paramValue r q = paramValue old q)
         ∧ (p = .purgeMin → (r.purgeMax : Int) = if (old.purgeMax : Int) ≤ x then x + 1 else old.purgeMax)
         ∧ r.patterns = old.patterns ∧ r.o2Sensor = old.o2Sensor ∧ r.lel1Sensor = old.lel1Sensor
         ∧ r.lel2Sensor = old.lel2Sensor ∧ r.trapSensor = old.trapSensor ∧ r.condensateSensor = old.condensateSensor
         ∧ exec .recipeWrite s = taken r (.number x))
     ∧ (∀ n : SensorName, f.fields.recipeItem = some (.sensorName n) →
       (∀ i : SensorIx, f.fields.value = .number i.val → exec .recipeWrite s = taken (match n with
           | .o2 => { old with o2Sensor := i }
           | .lel1 => { old with lel1Sensor := i }
           | .lel2 => { old with lel2Sensor := some i }
           | .trap => { old with trapSensor := i }
           | .condensate => { old with condensateSensor := i }) (.number i.val))
       ∧ (n = .lel2 → f.fields.value = .absent → exec .recipeWrite s = taken { old with lel2Sensor := none } .absent)
       ∧ ((∀ i : SensorIx, f.fields.value ≠ .number i.val) → n ≠ .lel2 ∨ f.fields.value ≠ .absent →
         exec .recipeWrite s = refused))
     ∧ ∀ (p : Phase) (o : Option Output), f.fields.recipeItem = some (.pattern p o) →
       (p = .safe ∨ o = none ∨ (∀ d : Drive, f.fields.value ≠ .drive d) ∨ (f.fields.value = .drive .pwm ∧ o ≠ some .n2Prop) →
         exec .recipeWrite s = refused)
       ∧ ∀ (x : Output) (d : Drive), p ≠ .safe → o = some x → f.fields.value = .drive d → (d = .pwm → x = .n2Prop) →
         ∃ t : Patterns, exec .recipeWrite s = taken { old with patterns := t } (.drive d)
           ∧ ∀ (q : Phase) (y : Output), q ≠ .safe → rowDrive (patternOf { old with patterns := t } q) y
               = if q = p ∧ y = x then d else rowDrive (patternOf old q) y)
  ∧ (∀ (r : Recipe) (row : PatternRow),
       [Param.batchSize, .fFoamMax, .loadWait, .sealTimeout, .purgeTarget, .purgeMin, .purgeMax, .o2ShredMax, .o2Abort,
          .lelResume, .lelPause, .dutyMin, .lelAbort, .shredTime, .pauseMax, .condenseTime, .trapMax, .condenseSettle, .unloadTime,
          .pwmPeriod, .dutyBase, .lelTarget, .kp].map (paramRange r)
         = [((1 : Int), (4 : Int)), (0, 4), (5, 600), (5, 120), (0, 250), (0, 600), (r.purgeMin + 1, 1200), (0, 250), (0, 250), (0, 1000),
            (0, 1000), (0, 256), (0, 1000), (30, 1800), (10, 600), (30, 1800), (-1000, 1000), (1, 10), (10, 600), (20, 1000),
            (0, 256), (0, 1000), (0, 64)]
       ∧ [Param.batchSize, .fFoamMax, .loadWait, .sealTimeout, .purgeTarget, .purgeMin, .purgeMax, .o2ShredMax, .o2Abort,
          .lelResume, .lelPause, .dutyMin, .lelAbort, .shredTime, .pauseMax, .condenseTime, .trapMax, .condenseSettle, .unloadTime,
          .pwmPeriod, .dutyBase, .lelTarget, .kp].map (paramValue r)
         = [(r.batchSize : Int), r.fFoamMax, r.loadWait, r.sealTimeout, r.purgeTarget, r.purgeMin, r.purgeMax, r.o2ShredMax,
            r.o2Abort, r.lelResume, r.lelPause, r.dutyMin, r.lelAbort, r.shredTime, r.pauseMax, r.condenseTime, r.trapMax,
            r.condenseSettle, r.unloadTime, r.pwmPeriod, r.dutyBase, r.lelTarget, r.kp]
       ∧ [Phase.idle, .loading, .sealing, .purging, .shredding, .paused, .condensing, .unloading, .aborted, .safe].map (patternOf r)
         = [r.patterns.idle, r.patterns.loading, r.patterns.sealing, r.patterns.purging, r.patterns.shredding, r.patterns.paused,
            r.patterns.condensing, r.patterns.unloading, r.patterns.aborted,
            ⟨.off, true, false, false, false, false, true, false, false, false⟩]
       ∧ rowDrive row .n2Prop = row.n2Prop
       ∧ [Output.n2Full, .vent, .circFan, .trapCool, .shredDrive, .doorLock, .discharge, .drain, .beacon].map (rowDrive row)
         = [row.n2Full, row.vent, row.circFan, row.trapCool, row.shredDrive, row.doorLock, row.discharge, row.drain,
            row.beacon].map (fun b => if b = true then Drive.on else .off))
  ∧ (∀ (s : State) (f : Frame) (rest : List Frame), FromSupervisor s .recipeCommit f rest →
       ∀ (r : Recipe) (lel o2 drive lock : Prop), r = s.cs.staged →
       (lel ↔ r.lelResume < r.lelPause ∧ r.lelPause < r.lelAbort) →
       (o2 ↔ r.purgeTarget ≤ r.o2ShredMax ∧ r.o2ShredMax < r.o2Abort) →
       (drive ↔ ∀ p : Phase, p ≠ .shredding → (patternOf r p).shredDrive = false) →
       (lock ↔ r.patterns.sealing.doorLock = true ∧ r.patterns.purging.doorLock = true ∧ r.patterns.shredding.doorLock = true
         ∧ r.patterns.paused.doorLock = true ∧ r.patterns.condensing.doorLock = true ∧ r.patterns.aborted.doorLock = true) →
       (lel ∧ o2 ∧ drive ∧ lock → exec .recipeCommit s = .next (answeredWith
         { popped s rest with cs.commitMark := true } (doneFrame 14 0x24 .empty)))
       ∧ ∀ c : CommitCondition,
         (¬lel ∧ c = .lelOrder) ∨ (lel ∧ ¬o2 ∧ c = .o2Order) ∨ (lel ∧ o2 ∧ ¬drive ∧ c = .shredDriveOff)
           ∨ (lel ∧ o2 ∧ drive ∧ ¬lock ∧ c = .doorLockOn) →
         exec .recipeCommit s = .next (answeredWith
           { popped s rest with cs.commitMark := false } ⟨14, 0, .head .refused (some .badValue) 0x24 (.commitFailed c)⟩))

/-! ## The line state -/

/-- Line Start, in CONFIG with no emergency stop, starts the reconcile channel with reconcile_window, clears window_expired, sets RECONCILE and
answers the window in seconds; otherwise it is refused with LINE_STATE (R204). Line Open in RECONCILE, Line Resume in STOPPED, and the end of the
reconcile window set the line state RUN while no emergency stop is active: EC restarts its stopped windows, CS leaves IDLE or SAFE, a grant attempt for
each class and a routing attempt follow. With an emergency stop the requests are refused with LINE_STATE and the window's end only sets window_expired
(R204, R207). -/
def Obligations.LineStartOpenAndResume : Prop :=
  (∀ (s : State) (f : Frame) (rest : List Frame), FromSupervisor s .lineStart f rest →
     (s.line.state = .config → s.line.estopActive = false →
       exec .lineStart s = .next (answeredWith
         { popped s rest with
           tu.reconcile := chStart (s.clock + sec s.cfg.reconcileWindow)
           line := ⟨.reconcile, false, false⟩ }
         (doneFrame 14 0x25 (.reconcileWindow s.cfg.reconcileWindow))))
     ∧ (s.line.state ≠ .config ∨ s.line.estopActive = true →
       exec .lineStart s = .next (answeredWith (popped s rest) (refusedFrame 14 0x25 .lineState))))
  ∧ (∀ (s : State),
       (∀ (f : Frame) (rest : List Frame), FromSupervisor s .lineOpen f rest →
         (s.line.state = .reconcile → s.line.estopActive = false →
           exec .lineOpen s = .next (answeredWith (enterRun { popped s rest with tu.reconcile := ⟨.idle, none⟩ }) (doneFrame 14 0x26 .empty)))
         ∧ (s.line.state ≠ .reconcile ∨ s.line.estopActive = true →
           exec .lineOpen s = .next (answeredWith (popped s rest) (refusedFrame 14 0x26 .lineState))))
       ∧ (∀ (f : Frame) (rest : List Frame), FromSupervisor s .lineResume f rest →
         (s.line.state = .stopped → s.line.estopActive = false →
           exec .lineResume s = .next (answeredWith (enterRun (popped s rest)) (doneFrame 14 0x27 .empty)))
         ∧ (s.line.state ≠ .stopped ∨ s.line.estopActive = true →
           exec .lineResume s = .next (answeredWith (popped s rest) (refusedFrame 14 0x27 .lineState))))
       ∧ (∀ d : Clock, s.tu.reconcile.expiry = some d → s.line.state = .reconcile →
         exec .reconcileExpiry s = .next
           (if s.line.estopActive = true then
             { s with tu.reconcile := { s.tu.reconcile with expiry := none }, line := { s.line with windowExpired := true } }
            else enterRun { s with tu.reconcile := { s.tu.reconcile with expiry := none } }))
       ∧ enterRun s = routingAttempt (grantAttempt (grantAttempt
           (chamberRun (allNodes.foldl resumeWindow { s with line := { s.line with state := .run } })) .h) .f)
       ∧ (enterRun s).line = { s.line with state := .run })

/-- What EC and CS do when the line state becomes RUN. A HOLD_STOPPED window starts again from the line clock with the delays and limit then
read, other entries stay (R103). CS in SAFE stops its channels and enters IDLE where the batch list is empty, and ABORTED where it is not
(R174); in IDLE with records in CHAMBER it forms them into an aborted batch under the next number (R175); IDLE goes on to LOADING with an
empty CHAMBER: a committed staged recipe becomes the working one, the mark is cleared, load_expired and ff_count start afresh, and CS
selects (R159, R160). In other phases nothing happens. The batch number goes from 65,535 to 1 (R154). -/
def Obligations.RunRestartsWindowsAndChamber : Prop :=
  ∀ s : State,
    (∀ n : Node,
      (∀ t : Tag, s.progress[n].state = .holdStopped → s.progress[n].tag = some t →
        resumeWindow s n = { s with
          tu.station := s.tu.station.set n
            ⟨.waiting (s.clock + sec s.cfg.holdDelay) (s.clock + sec s.cfg.holdEnd), none, none, none⟩
          progress := s.progress.set n ⟨.holdWait, some t, s.progress[n].dwellEnd,
            some ⟨s.cfg.holdDelay, s.cfg.holdEnd, s.cfg.riseLimit⟩, none, none, 0⟩ })
      ∧ (s.progress[n].state ≠ .holdStopped → resumeWindow s n = s))
    ∧ (s.line.state = .run →
      (s.cs.phase = .safe → s.cs.batchList = [] → chamberRun s = enterLoading (enterPhase { s with
        tu.phase := ⟨.idle, none⟩, tu.pause := ⟨.idle, none⟩, tu.load := ⟨.idle, none⟩ } .idle .lineResume))
      ∧ (s.cs.phase = .safe → s.cs.batchList ≠ [] → chamberRun s = enterAborted s .lineResume)
      ∧ (s.cs.phase = .idle → s.zu.chamber = [] → chamberRun s = enterLoading s)
      ∧ (s.cs.phase = .idle → s.zu.chamber ≠ [] →
        ∃ k : Nat, k = (if s.cs.batchCounter = 65535 then 1 else s.cs.batchCounter + 1)
          ∧ chamberRun s = enterAborted { s with
            records := s.records.map fun r => if r.tag ∈ s.zu.chamber then { r with stage := .batched, batch := some k } else r
            cs.batchCounter := k
            cs.batchList := s.zu.chamber
            cs.ffCount := ((s.zu.chamber.filterMap (lookup s)).filter (·.foamClass != .h)).length } .adopted)
      ∧ (s.cs.phase ≠ .safe → s.cs.phase ≠ .idle → chamberRun s = s))
    ∧ (s.zu.chamber ≠ [] → enterLoading s = s)
    ∧ (s.zu.chamber = [] → enterLoading s = selectionAttempt (enterPhase { s with
        cs.working := if s.cs.commitMark = true then s.cs.staged else s.cs.working
        cs.commitMark := false
        cs.loadExpired := false
        cs.ffCount := 0 } .loading .lineRun))

/-- An accepted assertion of the emergency stop sets estop_active and freezes the running chamber channels; in RUN it also stops the line:
every RELEASED gate becomes IDLE and its passage channel is stopped, every other gate and channel stays, and the records and the zone lists
stay (R37), EC and VU act on their entries, and CS goes SAFE unless it is IDLE. An accepted clearing clears estop_active and changes no line
state (R201, R78, R174). That a raw level that differs from the level accepted is the next candidate is the model's choice, assumption 8. -/
def Obligations.EmergencyStopAccepted : Prop :=
  (∀ (s : State) (c : Candidate) (x : InputFilter), x = ⟨s.tu.estop.raw, s.tu.estop.rawStamp, !s.tu.estop.filtered,
      if s.tu.estop.raw = !s.tu.estop.filtered then none else some ⟨s.tu.estop.rawStamp, s.cfg.filterTime⟩⟩ →
    s.tu.estop.candidate = some c → reached s.clock (c.stamp + msec c.filterTime) = true →
    (s.tu.estop.filtered = true →
      exec (.inputChangeAccepted .estop) s = .next { s with
        tu.estop := x
        line := { s.line with estopActive := false } })
    ∧ (s.tu.estop.filtered = false →
      ∃ u : State,
        u = { s with
          tu.estop := x
          tu.phase := chFreeze s.clock s.tu.phase
          tu.pause := chFreeze s.clock s.tu.pause
          tu.load := chFreeze s.clock s.tu.load
          line := { s.line with estopActive := true } }
        ∧ (s.line.state ≠ .run → exec (.inputChangeAccepted .estop) s = .next u)
        ∧ (s.line.state = .run →
          exec (.inputChangeAccepted .estop) s = .next (chamberStopped (transfersStopped (abandonPassages
            { u with line := { u.line with state := .stopped } }))))))
  ∧ ∀ s t : State, t = abandonPassages s →
      t = { s with zu.gates := t.zu.gates, tu.passage := t.tu.passage }
      ∧ ∀ g : Gate,
        ((s.zu.gates.get g).state = .released → t.zu.gates.get g = ⟨.idle, false, none⟩ ∧ t.tu.passage.get g = ⟨.idle, none⟩)
        ∧ ((s.zu.gates.get g).state ≠ .released →
          t.zu.gates.get g = s.zu.gates.get g ∧ t.tu.passage.get g = s.tu.passage.get g)

/-- What EC, VU and CS do when the line stops. A DWELL entry is discarded with its channel and its record is WAIT_INLET again; a window in
HOLD_WAIT or HOLD_OPEN is stopped, HOLD_STOPPED, its readings discarded; other entries stay (R102). A vessel in BASELINE is IDLE again, its
request withdrawn; one that is FILLING closes its valve and settles from the line clock, still bound; the entry of each goes back to the
head of its queue, from the highest vessel index down; other vessels stay (R121, R115). CS stays in IDLE and SAFE; from another phase it
enters SAFE, a pending condensate request withdrawn, a PENDING baseline NONE (R174). -/
def Obligations.StopActsOnTransfersAndChamber : Prop :=
  ∀ s : State,
    (∀ n : Node,
      (∀ t : Tag, s.progress[n].state = .dwell → s.progress[n].tag = some t →
        stopProgress s n = { s with
          records := s.records.map fun r => if r.tag = t then { r with stage := .waitInlet } else r
          tu.station := s.tu.station.set n ⟨.idle, none, none, none⟩
          progress := s.progress.set n ⟨.none, none, none, none, none, none, 0⟩ })
      ∧ (s.progress[n].state = .holdWait ∨ s.progress[n].state = .holdOpen →
        stopProgress s n = { s with
          tu.station := s.tu.station.set n ⟨.idle, none, none, none⟩
          progress := s.progress.set n { s.progress[n] with state := .holdStopped, baseline := none, last := none, reports := 0 } })
      ∧ (s.progress[n].state ≠ .dwell → s.progress[n].state ≠ .holdWait → s.progress[n].state ≠ .holdOpen → stopProgress s n = s))
    ∧ (∀ (v : VesselIx) (x : Vessel), x = s.vu.vessels[v] →
      (∀ (t : Tag) (n : Node) (putBackWith : Vessel → VesselUnit), x.bound = some (t, n) →
        putBackWith = (fun y => match x.streamClass with
          | .h => { s.vu with vessels := s.vu.vessels.set v y, inqH := ⟨n, t⟩ :: s.vu.inqH }
          | .f => { s.vu with vessels := s.vu.vessels.set v y, inqF := ⟨n, t⟩ :: s.vu.inqF }) →
        (x.state = .baseline → stopVessel s v = { s with
          vu := putBackWith { x with state := .idle, bound := none }
          sn.requests := s.sn.requests.filter (·.requester != .vessel v)
          sn.immediate := s.sn.immediate.filter (· != .vessel v) })
        ∧ (x.state = .filling → stopVessel s v = { s with
          vu := putBackWith { x with valve := false, state := .settling }
          tu.settle := s.tu.settle.set v (chStart (s.clock + sec x.settleS)) }))
      ∧ (x.state ≠ .baseline → x.state ≠ .filling → stopVessel s v = s))
    ∧ (∃ u : State, u = [0, 1, 2, 3, 4, 5, 6, 7, 8, 9, 10, 11].foldl stopProgress s
        ∧ transfersStopped s = stopVessel (stopVessel (stopVessel (stopVessel u 3) 2) 1) 0)
    ∧ (s.cs.phase = .idle ∨ s.cs.phase = .safe → chamberStopped s = s)
    ∧ (s.cs.phase ≠ .idle → s.cs.phase ≠ .safe → chamberStopped s = enterPhase { s with
        sn.requests := s.sn.requests.filter (·.requester != .condensate)
        sn.immediate := s.sn.immediate.filter (· != .condensate)
        cs.baseline := if s.cs.baseline = .pending then .none else s.cs.baseline } .safe .emergencyStop)

/-- Line Reset, in every line state, empties the table, the zones and the queues, sets stations ABSENT, progress NONE, vessels OFFLINE with
valves off, channels and generator at rest, and the line CONFIG (R208). The chamber is IDLE with an empty batch and every mark clear, the
condensing step among them (assumption 11); its outputs take the IDLE pattern of the working recipe, SHRED_DRIVE off (R154), and N2_PROP,
where that pattern gives PWM, an open level (assumption 9). SN clears every reading, discards the requests and the poll in flight, and
begins again with the lowest enabled entry, the next slot slot_interval later (R139, R142); what it sent is forgotten (assumption 35). LP
empties its queues and places the one answer; a frame in transmission ends on the bus and belongs to no queue (R196; that it is kept so is
assumption 24); the transmit queue is preferred (R194). The clock, the configuration, both recipes and the commit mark, estop_active, the
batch counter, the error count and the bus state stay. That the queue of waiting commands stays is the model's choice, assumption 1. -/
def Obligations.LineResetReturnsToConfig : Prop :=
  ∀ (s : State) (f : Frame) (rest : List Frame), FromSupervisor s .lineReset f rest →
    ∃ (t : State) (row : PatternRow) (first : Option SensorIx), exec .lineReset s = .next t
      ∧ t.line = ⟨.config, s.line.estopActive, false⟩ ∧ t.records = [] ∧ (∀ p : Place, zoneList t p = [])
      ∧ (∀ g : Gate, t.zu.gates.get g = ⟨.idle, false, none⟩ ∧ t.tu.passage.get g = ⟨.idle, none⟩)
      ∧ (∀ n : Node, t.stations[n] = ⟨.absent, none, none, {}, {}, none, false, none⟩
          ∧ t.progress[n] = ⟨.none, none, none, none, none, none, 0⟩
          ∧ t.tu.heartbeat[n] = ⟨.idle, none⟩ ∧ t.tu.station[n] = ⟨.idle, none, none, none⟩)
      ∧ (∀ v : VesselIx, t.vu.vessels[v] = { s.vu.vessels[v] with
          state := .offline, netG := none, bookedTotalG := 0, bound := none, baselineGross := none, faultCause := none
          valve := false } ∧ t.tu.settle[v] = ⟨.idle, none⟩)
      ∧ t.vu.inqH = [] ∧ t.vu.inqF = []
      ∧ (∀ i : SensorIx, t.sn.sensors[i] = { s.sn.sensors[i] with
          state := .init, latest := none, stale := false, saturated := false, failCount := 0, goodCount := 0
          faultLatch := false })
      ∧ (∀ i : SensorIx, first = some i → s.sn.sensors[i].enabled = true ∧ ∀ j : SensorIx, j < i → s.sn.sensors[j].enabled = false)
      ∧ (first = none → ∀ i : SensorIx, s.sn.sensors[i].enabled = false)
      ∧ t.sn = { t.sn with
          lastPolled := first.getD 15
          slotDue := s.clock + msec s.cfg.slotInterval
          inFlight := first.map fun i => ⟨i, s.sn.sensors[i].address, s.sn.sensors[i].sampleIndex, false⟩
          requests := [], immediate := [], sent := [] }
      ∧ row = s.cs.working.patterns.idle
      ∧ t.cs = { s.cs with
          phase := .idle, batchList := [], ffCount := 0, loadExpired := false, purgeMinDone := false, shredDone := false
          step := .none, baseline := .none, total := none
          outputs := ⟨t.cs.outputs.n2Prop, row.n2Full, row.vent, row.circFan, row.trapCool, false, row.doorLock, row.discharge,
            row.drain, row.beacon⟩ }
      ∧ (row.n2Prop = .off → t.cs.outputs.n2Prop = false) ∧ (row.n2Prop = .on → t.cs.outputs.n2Prop = true)
      ∧ t.tu.pwm = ⟨none, 0, 0⟩ ∧ t.tu.phase = ⟨.idle, none⟩ ∧ t.tu.pause = ⟨.idle, none⟩ ∧ t.tu.load = ⟨.idle, none⟩
      ∧ t.tu.reconcile = ⟨.idle, none⟩ ∧ t.tu.passages = [] ∧ t.tu.barriers = s.tu.barriers ∧ t.tu.door = s.tu.door
      ∧ t.tu.estop = s.tu.estop
      ∧ (∀ g : Gate, t.tu.slots.get g = if s.tu.slots.get g = .broken then .standing else s.tu.slots.get g)
      ∧ t.clock = s.clock ∧ t.cfg = s.cfg ∧ t.pending = s.pending
      ∧ t.lp = { s.lp with
          requests := [], answers := [doneFrame 14 0x28 .empty], notices := [], noticeParts := 0
          sending := s.lp.sending.map fun x => { x with side := .orphan }
          prefer := .transmit }

/-- An Adopt in RECONCILE creates a record at the tail of the zone it names, with weight and charge as its frame carries them, or 1 kg and
no charge; the values are checked and clamped as R14 says. It is BAD_VALUE for a value that R14 refuses, for a stage or zone code that names
nothing, for WAIT_INLET, EVACUATING and VACUUM_HOLD, in CHAMBER for a stage other than DONE1 and BATCHED, and at a station for a node whose
entry is not EXTRACT or a stage other than CLAIMED and DONE1; then DUPLICATE_TAG for a tag in the table, BUSY at a position that holds a
claim, NOT_ELIGIBLE for more F and U foam in CHAMBER than f_foam_max, ZONE_FULL without a free place or, in CHAMBER, at batch_size. At
DONE1, BATCHED and REJECTED the verdict is UNMEASURED and done1_stamp the line clock. At a position the entry's claim and the record's
station are set together, and CLASS_CONFLICT is raised with raised_by 0 where the entry does not cover the class. The answer carries the
zone's occupancy. In other line states Adopt is LINE_STATE (R206). -/
def Obligations.AdoptPlacesRecord : Prop :=
  ∀ (s : State) (f : Frame) (rest : List Frame), FromSupervisor s .adopt f rest →
    ∀ refused : Reason → Host.Outcome State Fault Refusal,
    refused = (fun why => .next (answeredWith (popped s rest) (refusedFrame 14 0x29 why))) →
    (s.line.state ≠ .reconcile → exec .adopt s = refused .lineState)
    ∧ (s.line.state = .reconcile → ∀ read : Option NewCabinet,
      read = checkCabinet f.fields.tag f.fields.classCode f.fields.foamCode (f.fields.charge.getD ⟨1, false, 0⟩) none →
      (read = none ∨ 8 < f.fields.stageCode ∨ 7 < f.fields.zoneCode
          ∨ f.fields.stageCode = 3 ∨ f.fields.stageCode = 4 ∨ f.fields.stageCode = 5
          ∨ (f.fields.zoneCode = 6 ∧ f.fields.stageCode ≠ 6 ∧ f.fields.stageCode ≠ 7)
          ∨ (f.fields.zoneCode = 4 ∧ ∀ n : Node, f.fields.node = nodeNumber n → s.stations[n].kind ≠ some .extract)
          ∨ (f.fields.zoneCode = 4 ∧ f.fields.stageCode ≠ 2 ∧ f.fields.stageCode ≠ 6) →
        exec .adopt s = refused .badValue)
      ∧ ∀ (c : NewCabinet) (st : Stage) (p : Place), read = some c →
        f.fields.stageCode = stageCode st → f.fields.zoneCode = placeCode p →
        st ≠ .waitInlet → st ≠ .evacuating → st ≠ .vacuumHold → (p = .chamber → st = .done1 ∨ st = .batched) →
        (∀ n : Node, p = .station n →
          f.fields.node = nodeNumber n ∧ s.stations[n].kind = some .extract ∧ (st = .claimed ∨ st = .done1)) →
        (lookup s c.tag ≠ none → exec .adopt s = refused .duplicateTag)
        ∧ (lookup s c.tag = none → ∀ (held foam : Nat) (taken room : Prop),
          held = (match p with
            | .intake => s.zu.intake.length | .lane l => (s.zu.lanes.get l).length | .station _ => 0
            | .buffer => s.zu.buffer.length | .chamber => s.zu.chamber.length | .exit => s.zu.exit.length) →
          foam = (s.zu.chamber.filter fun t => (lookup s t).any (·.foamClass != .h)).length + (if c.foamClass = .h then 0 else 1) →
          (taken ↔ ∃ n : Node, p = .station n ∧ s.stations[n].claim ≠ none) →
          (room ↔ match p with
            | .intake => held < s.cfg.capIntake
            | .lane l => held + (if (s.zu.gates.get (.lane l)).passing = none then 0 else 1) < s.cfg.capLanes.get l
            | .station _ => True
            | .buffer => held < s.cfg.capBuffer
            | .chamber => held + (if s.zu.gates.feed.passing = none then 0 else 1) < 4 ∧ held < s.cs.working.batchSize
            | .exit => held < s.cfg.capExit) →
          (taken → exec .adopt s = refused .busy)
          ∧ (¬taken → p = .chamber → s.cs.working.fFoamMax < foam → exec .adopt s = refused .notEligible)
          ∧ (¬taken → (p = .chamber → foam ≤ s.cs.working.fFoamMax) →
            (¬room → exec .adopt s = refused .zoneFull)
            ∧ (room → ∃ (r : Record) (t u : State) (done : Bool),
              (done = true ↔ st = .done1 ∨ st = .batched ∨ st = .rejected)
              ∧ r = { tag := c.tag, enrolledClass := c.cls, cls := c.cls, foamClass := c.foamClass, foamWeight := c.foamWeight
                      declaredCharge := c.declaredCharge, stage := st
                      station := match p with | .station n => some n | _ => none
                      vessel := none, transfers := 0, recovered := 0, verdict := if done = true then .unmeasured else .none
                      dwellOverride := none, holds := [], reevacUsed := 0, skipCount := 0, enrolStamp := s.clock
                      routeStamp := none, done1Stamp := if done = true then some s.clock else none, batch := none
                      foamShare := none }
              ∧ t = { popped s rest with records := s.records ++ [r] }
              ∧ u = (match p with
                | .intake => { t with zu.intake := s.zu.intake ++ [c.tag] }
                | .lane l => { t with zu.lanes := s.zu.lanes.set l (s.zu.lanes.get l ++ [c.tag]) }
                | .station n => { t with stations := s.stations.set n { s.stations[n] with claim := some c.tag } }
                | .buffer => { t with zu.buffer := s.zu.buffer ++ [c.tag] }
                | .chamber => { t with zu.chamber := s.zu.chamber ++ [c.tag] }
                | .exit => { t with zu.exit := s.zu.exit ++ [c.tag] })
              ∧ exec .adopt s = .next (answeredWith
                (match p with
                  | .station n => if covers s.stations[n].granted c.cls = true then u else raiseHold u c.tag .classConflict 0
                  | _ => u)
                (doneFrame 14 0x29 (.occupancy (held + 1))))))))

/-! ## Holds, dispositions and vessels -/

/-- Hold raises MANUAL with raised_by 14 on a record that is not in passage: the entry is stamped, HOLD RAISED is sent with the stage and
the holds after it; a MANUAL already held changes nothing; a record in passage is BUSY (R179, R178). A record in WAIT_INLET first loses its
inlet: its entry leaves the queue, its stage becomes CLAIMED, and a grant in BASELINE is abandoned, its sample request withdrawn, the vessel
IDLE and free for the next grant (R90, R120). A hold of any reason is raised in this way: one already carried changes nothing, another joins
the hold set stamped and with its raiser, and HOLD RAISED tells of it (R177, R178). -/
def Obligations.HoldRaisesManual : Prop :=
  (∀ (s : State) (f : Frame) (rest : List Frame) (r : Record), FromSupervisor s .hold f rest → lookup s f.fields.tag = some r →
     (inPassage s f.fields.tag = true →
       exec .hold s = .next (answeredWith (popped s rest) (refusedFrame 14 0x30 .busy)))
     ∧ (inPassage s f.fields.tag = false →
       (carries r .manual = true →
         exec .hold s = .next (answeredWith (popped s rest) (doneFrame 14 0x30 (.held r.stage true))))
       ∧ (carries r .manual = false → r.stage = .waitInlet →
         ∃ w : State,
           w = { popped s rest with
             vu.inqH := s.vu.inqH.filter (·.tag != f.fields.tag)
             vu.inqF := s.vu.inqF.filter (·.tag != f.fields.tag)
             records := s.records.map fun x => if x.tag = f.fields.tag then { x with stage := .claimed } else x }
           ∧ ((∀ v : VesselIx, boundVessel s f.fields.tag = some v → s.vu.vessels[v].state ≠ .baseline) →
             exec .hold s = .next (answeredWith (addHold w f.fields.tag .manual 14) (doneFrame 14 0x30 (.held .claimed false))))
           ∧ ∀ v : VesselIx, boundVessel s f.fields.tag = some v → s.vu.vessels[v].state = .baseline →
             exec .hold s = .next (answeredWith
               (addHold (grantAttempt { w with
                   vu.vessels := s.vu.vessels.set v { s.vu.vessels[v] with state := .idle, bound := none }
                   sn.requests := s.sn.requests.filter (·.requester != .vessel v)
                   sn.immediate := s.sn.immediate.filter (· != .vessel v) } s.vu.vessels[v].streamClass) f.fields.tag .manual 14)
               (doneFrame 14 0x30 (.held .claimed false))))
       ∧ (carries r .manual = false → r.stage ≠ .waitInlet →
         exec .hold s = .next (answeredWith
           (placeNotice { popped s rest with
               records := s.records.map fun x => if x.tag = f.fields.tag then
                 { x with holds := x.holds ++ [⟨.manual, 14, s.clock⟩] } else x }
             14 (.holdRaised f.fields.tag .manual 14 r.stage (placeOf s f.fields.tag)
               (holdMarks { r with holds := r.holds ++ [⟨.manual, 14, s.clock⟩] })))
           (doneFrame 14 0x30 (.held r.stage false))))))
  ∧ ∀ (s : State) (t : Tag) (h : HoldReason) (by_ : Nat) (r : Record), lookup s t = some r →
      (carries r h = true ↔ ∃ e ∈ r.holds, e.reason = h)
      ∧ (inPassage s t = true ↔ ∃ g : Gate, (s.zu.gates.get g).passing = some t)
      ∧ (carries r h = true → raiseHold s t h by_ = s ∧ addHold s t h by_ = s)
      ∧ (carries r h = false →
        addHold s t h by_ = placeNotice { s with
            records := s.records.map fun x => if x.tag = t then { x with holds := x.holds ++ [⟨h, by_, s.clock⟩] } else x }
          14 (.holdRaised t h by_ r.stage (placeOf s t) (holdMarks { r with holds := r.holds ++ [⟨h, by_, s.clock⟩] }))
        ∧ (r.stage ≠ .waitInlet → raiseHold s t h by_ = addHold s t h by_))

/-- Clear Hold of CHAMBER_ABORT is NOT_PERMITTED; of CLASS_CONFLICT at a station that does not cover the class NOT_ELIGIBLE (R182; also when
the record does not carry it, assumption 31); of another reason the record does not carry DONE with nothing changed. A reason carried is
removed and the zone's owner told when it was the last: ZU then makes a routing attempt for the head of INTAKE, CS a selection attempt for a
record in BUFFER (R180, R183). Accepting a LEAK leads a record in VACUUM_HOLD or CLAIMED to DONE1, at once, or through ACCEPT_WAIT while a
vessel is bound to it; at another stage it is only removed (R100). STATION_LOST at a JOINED station is BAD_STAGE (R181). Of a LOST or BARRED
station's record it returns the claim: the record goes to the head of the station's lane at stage ROUTED; a bound vessel is BUSY, a lane
without a free place ZONE_FULL, in this order (R181, R40, the order assumption 34). An unknown reason is BAD_VALUE, an unknown tag
UNKNOWN_TAG. -/
def Obligations.ClearHoldRemovesReason : Prop :=
  (∀ (s : State) (f : Frame) (rest : List Frame), FromSupervisor s .clearHold f rest →
     ∀ (t : Tag) (refused : Reason → Host.Outcome State Fault Refusal) (room : Lane → Prop), t = f.fields.tag →
     (∀ l : Lane, room l ↔
       (s.zu.lanes.get l).length + (if (s.zu.gates.get (.lane l)).passing = none then 0 else 1) < s.cfg.capLanes.get l) →
     refused = (fun why => .next (answeredWith (popped s rest) (refusedFrame 14 0x31 why))) →
     (8 ≤ f.fields.reasonCode → exec .clearHold s = refused .badValue)
     ∧ ∀ h : HoldReason, holdReasonOfCode f.fields.reasonCode = some h →
       (lookup s t = none → exec .clearHold s = refused .unknownTag)
       ∧ ∀ r : Record, lookup s t = some r →
         (h = .chamberAbort → exec .clearHold s = refused .notPermitted)
         ∧ (∀ n : Node, h = .classConflict → placeOf s t = some (.station n) → covers s.stations[n].granted r.cls = false →
           exec .clearHold s = refused .notEligible)
         ∧ (h ≠ .chamberAbort → carries r h = false →
           (h = .classConflict → ∀ n : Node, placeOf s t = some (.station n) → covers s.stations[n].granted r.cls = true) →
           exec .clearHold s = .next (answeredWith (popped s rest)
             (doneFrame 14 0x31 (.cleared false r.stage (holdMarks r) 0 0))))
         ∧ ∀ (e : HoldEntry) (u : State) (cleared : State → Host.Outcome State Fault Refusal),
           r.holds.find? (·.reason == h) = some e →
           u = lastHoldCleared { popped s rest with
             records := s.records.map fun x => if x.tag = t then { x with holds := x.holds.filter (·.reason != h) } else x } t →
           cleared = (fun w => .next (answeredWith w (doneFrame 14 0x31 (.cleared true (tagStage w t)
             (holdMarks { r with holds := r.holds.filter (·.reason != h) }) e.raisedBy
             (min ((s.clock - e.raisedAt).toNat / 1000) 65534))))) →
           (h = .jam ∨ h = .scaleFault ∨ h = .overYield ∨ h = .manual → exec .clearHold s = cleared u)
           ∧ (h = .classConflict → (∀ n : Node, placeOf s t = some (.station n) → covers s.stations[n].granted r.cls = true) →
             exec .clearHold s = cleared u)
           ∧ (h = .leak →
             (r.stage ≠ .vacuumHold → r.stage ≠ .claimed → exec .clearHold s = cleared u)
             ∧ ∀ n : Node, r.stage = .vacuumHold ∨ r.stage = .claimed → r.station = some n →
               (boundVessel s t ≠ none → exec .clearHold s = cleared
                 { u with progress := s.progress.set n ⟨.acceptWait, some t, none, none, none, none, 0⟩ })
               ∧ (boundVessel s t = none → exec .clearHold s = cleared
                 (enterDone1 { u with progress := s.progress.set n ⟨.none, none, none, none, none, none, 0⟩ } t)))
           ∧ (h = .stationLost →
             ((∀ n : Node, placeOf s t ≠ some (.station n)) → exec .clearHold s = cleared u)
             ∧ ∀ n : Node, placeOf s t = some (.station n) →
               (s.stations[n].state = .joined → exec .clearHold s = refused .badStage)
               ∧ (s.stations[n].state ≠ .joined → boundVessel s t ≠ none → exec .clearHold s = refused .busy)
               ∧ ∀ l : Lane, s.stations[n].state ≠ .joined → boundVessel s t = none → s.stations[n].lane = some l →
                 (¬room l → exec .clearHold s = refused .zoneFull)
                 ∧ (room l → exec .clearHold s = cleared { popped s rest with
                   stations := s.stations.set n { s.stations[n] with claim := none }
                   zu.lanes := s.zu.lanes.set l (t :: s.zu.lanes.get l)
                   records := s.records.map fun x => if x.tag = t then
                     { x with holds := x.holds.filter (·.reason != .stationLost), station := none, stage := .routed } else x })))
  ∧ ∀ (s : State) (t : Tag) (h : HoldReason),
      lastHoldCleared s t = (match lookup s t with
        | none => s
        | some r => if r.holds ≠ [] then s
          else if s.zu.intake.head? = some t then routingAttempt s
          else if t ∈ s.zu.buffer then selectionAttempt s
          else s)
      ∧ clearHold s t h = lastHoldCleared { s with
          records := s.records.map fun x => if x.tag = t then { x with holds := x.holds.filter (·.reason != h) } else x } t

/-- Dispose of a record not in CHAMBER or EXIT, not in passage, not EVACUATING and with no vessel bound, where EXIT has a free place, moves
it to the tail of EXIT at stage REJECTED, out of its list and the inlet queues, and answers the records in EXIT; each failing check refuses
it (R184, R185), an unknown tag as RequestWaitsOrIsRefused says. The move is written out for each zone it can start from: the removal of the
INTAKE head, and a removal from a lane, brings a routing attempt, one from BUFFER a selection attempt, and one from a station position ends
its claim and its test. Retire sends the DISCHARGE REPORT of a record in EXIT, frees its slot and its place and answers the records left in
EXIT; a record elsewhere is BAD_STAGE (R21, R22, R23). Override stores a dwell of 10 to 600 s, or removes it for 0, up to VACUUM_HOLD, and
answers the effective dwell; later stages are BAD_STAGE (R20). -/
def Obligations.DisposeRetireAndOverride : Prop :=
  (∀ (s : State) (f : Frame) (rest : List Frame) (r : Record) (p : Place),
     FromSupervisor s .dispose f rest → lookup s f.fields.tag = some r → placeOf s f.fields.tag = some p →
     (p = .chamber ∨ p = .exit →
       exec .dispose s = .next (answeredWith (popped s rest) (refusedFrame 14 0x32 .badStage)))
     ∧ (p ≠ .chamber → p ≠ .exit → inPassage s f.fields.tag = true ∨ r.stage = .evacuating ∨ boundVessel s f.fields.tag ≠ none →
       exec .dispose s = .next (answeredWith (popped s rest) (refusedFrame 14 0x32 .busy)))
     ∧ (p ≠ .chamber → p ≠ .exit → inPassage s f.fields.tag = false → r.stage ≠ .evacuating → boundVessel s f.fields.tag = none →
       (s.cfg.capExit ≤ s.zu.exit.length →
         exec .dispose s = .next (answeredWith (popped s rest) (refusedFrame 14 0x32 .zoneFull)))
       ∧ (s.zu.exit.length < s.cfg.capExit → ∃ u : State,
         u = { popped s rest with
           zu.exit := s.zu.exit ++ [f.fields.tag]
           vu.inqH := s.vu.inqH.filter (·.tag != f.fields.tag)
           vu.inqF := s.vu.inqF.filter (·.tag != f.fields.tag)
           records := s.records.map fun x => if x.tag = f.fields.tag then
             { x with stage := .rejected, station := if (∃ n : Node, p = .station n) then none else x.station } else x }
         ∧ (∀ v : State, p = .intake → v = { u with zu.intake := s.zu.intake.filter (· != f.fields.tag) } →
           exec .dispose s = .next (answeredWith (if s.zu.intake.head? = some f.fields.tag then routingAttempt v else v)
             (doneFrame 14 0x32 (.occupancy (s.zu.exit.length + 1)))))
         ∧ (p = .buffer → exec .dispose s = .next (answeredWith
             (selectionAttempt { u with zu.buffer := s.zu.buffer.filter (· != f.fields.tag) })
             (doneFrame 14 0x32 (.occupancy (s.zu.exit.length + 1)))))
         ∧ (∀ l : Lane, p = .lane l →
           exec .dispose s = .next (answeredWith
             (routingAttempt { u with zu.lanes := s.zu.lanes.set l ((s.zu.lanes.get l).filter (· != f.fields.tag)) })
             (doneFrame 14 0x32 (.occupancy (s.zu.exit.length + 1)))))
         ∧ (∀ n : Node, p = .station n →
           exec .dispose s = .next (answeredWith
             (if s.progress[n].state = .holdWait ∨ s.progress[n].state = .holdOpen ∨ s.progress[n].state = .holdStopped then
               { u with
                 stations := s.stations.set n { s.stations[n] with claim := none }
                 progress := s.progress.set n .initial
                 tu.station := s.tu.station.set n ⟨.idle, none, none, none⟩ }
              else { u with stations := s.stations.set n { s.stations[n] with claim := none } })
             (doneFrame 14 0x32 (.occupancy (s.zu.exit.length + 1))))))))
  ∧ (∀ (s : State) (f : Frame) (rest : List Frame) (r : Record), lookup s f.fields.tag = some r →
       (FromSupervisor s .retire f rest →
         (placeOf s f.fields.tag ≠ some .exit →
           exec .retire s = .next (answeredWith (popped s rest) (refusedFrame 14 0x33 .badStage)))
         ∧ (placeOf s f.fields.tag = some .exit →
           exec .retire s = .next (answeredWith
             { placeNotice (popped s rest) 14 (.discharge r.tag .exit r.enrolledClass r.cls r.foamClass (r.declaredCharge.getD 0)
                 r.transfers r.recovered r.verdict (r.batch.getD 0) r.foamShare (holdMarks r)
                 (min ((s.clock - r.enrolStamp).toNat / 1000) 65535)) with
               zu.exit := s.zu.exit.filter (· != f.fields.tag)
               records := s.records.filter (·.tag != f.fields.tag) }
             (doneFrame 14 0x33 (.occupancy (s.zu.exit.filter (· != f.fields.tag)).length)))))
       ∧ (FromSupervisor s .override f rest →
         (r.stage = .done1 ∨ r.stage = .batched ∨ r.stage = .rejected →
           exec .override s = .next (answeredWith (popped s rest) (refusedFrame 14 0x34 .badStage)))
         ∧ (r.stage ≠ .done1 → r.stage ≠ .batched → r.stage ≠ .rejected →
           ∃ d : Option Nat,
             d = (if f.fields.seconds = 0 then none else some (max 10 (min f.fields.seconds 600)))
             ∧ exec .override s = .next (answeredWith
               { popped s rest with
                 records := s.records.map fun x => if x.tag = f.fields.tag then { x with dwellOverride := d } else x }
               (doneFrame 14 0x34 (.dwell (match d, r.cls with
                 | some seconds, _ => seconds
                 | none, .h => s.cfg.dwellH
                 | none, .f => s.cfg.dwellF
                 | none, _ => 0)))))))

/-- Vessel Online of an OFFLINE vessel with a tare up to 262,140 g, whose scale is enabled, of kind SCALE and named by no other vessel in service,
makes it IDLE with that tare, booked_total_g 0 and no net, baseline or cause, and a grant attempt follows; each failing check refuses it, in the
order of R108. -/
def Obligations.VesselOnlineTaken : Prop :=
  ∀ (s : State) (f : Frame) (rest : List Frame), FromSupervisor s .vesselOnline f rest →
    (4 ≤ f.fields.index →
      exec .vesselOnline s = .next (answeredWith (popped s rest) (refusedFrame 14 0x35 .badValue)))
    ∧ ∀ (v : VesselIx) (e : Sensor), f.fields.index = v.val → e = s.sn.sensors[s.vu.vessels[v].scaleSensor] →
      (s.vu.vessels[v].state ≠ .offline →
        exec .vesselOnline s = .next (answeredWith (popped s rest) (refusedFrame 14 0x35 .badStage)))
      ∧ (s.vu.vessels[v].state = .offline →
        262140 < f.fields.tare ∨ e.enabled = false ∨ e.kind ≠ .scale
          ∨ (∃ w : VesselIx, w ≠ v ∧ s.vu.vessels[w].state ≠ .offline ∧ s.vu.vessels[w].scaleSensor = s.vu.vessels[v].scaleSensor) →
        exec .vesselOnline s = .next (answeredWith (popped s rest) (refusedFrame 14 0x35 .badValue)))
      ∧ (s.vu.vessels[v].state = .offline → f.fields.tare ≤ 262140 → e.enabled = true → e.kind = .scale →
        (∀ w : VesselIx, w ≠ v → s.vu.vessels[w].state ≠ .offline → s.vu.vessels[w].scaleSensor ≠ s.vu.vessels[v].scaleSensor) →
        exec .vesselOnline s = .next (answeredWith
          (grantAttempt { popped s rest with
            vu.vessels := s.vu.vessels.set v { s.vu.vessels[v] with
              tareG := f.fields.tare, bookedTotalG := 0, netG := none, baselineGross := none, faultCause := none, state := .idle } }
            s.vu.vessels[v].streamClass)
          (doneFrame 14 0x35 (.vesselOnline v s.vu.vessels[v].streamClass
            (s.vu.vessels[v].capacityG * s.vu.vessels[v].fillPm / 1000)))))

/-- Vessel Offline (R109): from the supervisor in every line state, a station NOT_PERMITTED, an index outside 0 to 3 BAD_VALUE. IDLE, FULL and FAULT
become OFFLINE with net_g and fault_cause removed and everything else kept; OFFLINE is left; a transfer under way is BUSY and runs on; the inlet
queues stay. -/
def Obligations.VesselOfflineByState : Prop :=
  ∀ (s : State) (f : Frame) (rest : List Frame), HeadIs s .vesselOffline f rest →
    (∀ m : Node, frameSource f = nodeNumber m → s.stations[m].state = .joined →
      exec .vesselOffline s = .next (answeredWith (popped s rest) (refusedFrame (nodeNumber m) 0x36 .notPermitted)))
    ∧ (frameSource f = 14 →
      (4 ≤ f.fields.index →
        exec .vesselOffline s = .next (answeredWith (popped s rest) (refusedFrame 14 0x36 .badValue)))
      ∧ ∀ v : VesselIx, f.fields.index = v.val →
        (s.vu.vessels[v].state = .idle ∨ s.vu.vessels[v].state = .full ∨ s.vu.vessels[v].state = .fault →
          exec .vesselOffline s = .next (answeredWith
            { popped s rest with
              vu.vessels := s.vu.vessels.set v { s.vu.vessels[v] with state := .offline, netG := none, faultCause := none } }
            (doneFrame 14 0x36 .empty)))
        ∧ (s.vu.vessels[v].state = .offline →
          exec .vesselOffline s = .next (answeredWith (popped s rest) (doneFrame 14 0x36 .empty)))
        ∧ (s.vu.vessels[v].state = .baseline ∨ s.vu.vessels[v].state = .filling ∨ s.vu.vessels[v].state = .settling
            ∨ s.vu.vessels[v].state = .final →
          exec .vesselOffline s = .next (answeredWith (popped s rest) (refusedFrame 14 0x36 .busy))))

/-- A grant attempt in RUN gives the lowest-numbered IDLE vessel of the class to the first queued entry whose record has no vessel and
carries no hold: the entry leaves the queue, the vessel is bound and in BASELINE, and its next sample is asked for, at once unusable from a
disabled or faulty scale; then it goes on from the state so reached, as the same attempt. A held record is never granted a vessel (R90);
that its entry, put back by an emergency stop, keeps its place in the queue and is passed over is the model's choice, assumption 33. Without
such a pair, or outside RUN, nothing changes (R111, R112, R150). A record has no vessel when no vessel is bound to it. -/
def Obligations.GrantGoesToOldestEntry : Prop :=
  (∀ (s : State) (c : Stream) (passedOver : State → Tag → Prop),
     (∀ (x : State) (t : Tag), passedOver x t ↔
       boundVessel x t ≠ none ∨ ∃ r : Record, lookup x t = some r ∧ r.holds ≠ []) →
     (s.line.state ≠ .run → grantAttempt s c = s)
     ∧ ((∀ v : VesselIx, s.vu.vessels[v].state = .idle → s.vu.vessels[v].streamClass ≠ c)
         ∨ (∀ e ∈ inletQueue s c, passedOver s e.tag) → grantAttempt s c = s)
     ∧ ∀ (v : VesselIx) (before after : List InletEntry) (e : InletEntry), s.line.state = .run →
       s.vu.vessels[v].state = .idle → s.vu.vessels[v].streamClass = c →
       (∀ w : VesselIx, w < v → s.vu.vessels[w].state = .idle → s.vu.vessels[w].streamClass ≠ c) →
       inletQueue s c = before ++ e :: after → ¬passedOver s e.tag → (∀ x ∈ before, passedOver s x.tag) →
       ∃ u : State,
         u = { s with
           vu := { (match c with | .h => { s.vu with inqH := before ++ after } | .f => { s.vu with inqF := before ++ after } : VesselUnit) with
             vessels := s.vu.vessels.set v { s.vu.vessels[v] with state := .baseline, bound := some (e.tag, e.node), baselineGross := none } }
           sn := if s.sn.sensors[s.vu.vessels[v].scaleSensor].enabled = false ∨ s.sn.sensors[s.vu.vessels[v].scaleSensor].state = .fault then
               { s.sn with immediate := s.sn.immediate ++ [.vessel v] }
             else { s.sn with requests := s.sn.requests ++ [⟨.vessel v, s.vu.vessels[v].scaleSensor⟩] } }
         ∧ grantAttempt s c = grantAttempt u c)
  ∧ ∀ (s : State) (t : Tag),
      (boundVessel s t = none ↔ ∀ (v : VesselIx) (n : Node), s.vu.vessels[v].bound ≠ some (t, n))
      ∧ ∀ v : VesselIx, boundVessel s t = some v → ∃ n : Node, s.vu.vessels[v].bound = some (t, n)

/-! ## Evacuation, samples and accounting -/

/-- The expiry of a dwell makes the record VACUUM_HOLD, closes the valve with the settle time counted from the carried deadline, sends EVAC
END, and starts the hold window from that deadline (R92, R115). A window open leads from HOLD_WAIT to HOLD_OPEN (R93). A window close judges
the test: it passes with at least one report and a rise at or below the limit held, and HOLD RESULT says so. Passed, the entry waits for a
bound vessel in PASS_WAIT, or the record becomes DONE1, stamped, with STAGE DONE to its station; failed, and without a report it is failed
with a rise of 0, the entry is NONE and LEAK is raised, the stage staying (R96, R97, R105). -/
def Obligations.EvacuationTimersAct : Prop :=
  (∀ (s : State) (n : Node),
     (∀ (d : Clock) (t : Tag) (v : VesselIx), s.tu.station[n] = ⟨.idle, some d, none, none⟩ → s.progress[n].state = .dwell →
       s.progress[n].tag = some t → boundVessel s t = some v →
       ∃ u : State,
         u = { s with
           vu.vessels := s.vu.vessels.set v { s.vu.vessels[v] with valve := false, state := .settling }
           tu.settle := s.tu.settle.set v (chStart (d + sec s.vu.vessels[v].settleS))
           records := s.records.map fun x => if x.tag = t then { x with stage := .vacuumHold } else x }
         ∧ exec (.dwellExpiry n) s = .next { placeNotice u (nodeNumber n) (.evacEnd t (some v) s.cfg.holdDelay s.cfg.holdEnd) with
             tu.station := s.tu.station.set n
               ⟨.waiting (d + sec s.cfg.holdDelay) (d + sec s.cfg.holdEnd), none, none, none⟩
             progress := s.progress.set n ⟨.holdWait, some t, some d, some ⟨s.cfg.holdDelay, s.cfg.holdEnd, s.cfg.riseLimit⟩,
               none, none, 0⟩ })
     ∧ ∀ o : Clock, s.tu.station[n].openEv = some o → s.progress[n].state = .holdWait →
       exec (.windowOpen n) s = .next { s with
         tu.station := s.tu.station.set n { s.tu.station[n] with openEv := none }
         progress := s.progress.set n { s.progress[n] with state := .holdOpen } })
  ∧ (∀ (s : State) (n : Node) (cl : Clock) (t : Tag) (b l : Nat × Clock) (w : HoldWindow),
       s.tu.station[n].openEv = none → s.tu.station[n].closeEv = some cl → s.progress[n].state = .holdOpen →
       s.progress[n].tag = some t → s.progress[n].baseline = some b → s.progress[n].last = some l → s.progress[n].window = some w →
       0 < s.progress[n].reports →
       ∃ u : State,
         u = placeNotice { s with tu.station := s.tu.station.set n { s.tu.station[n] with closeEv := none } }
             (nodeNumber n) (.holdResult t (decide ((l.1 : Int) - b.1 ≤ w.riseLimit)) b.1 l.1 ((l.1 : Int) - b.1) s.progress[n].reports)
         ∧ exec (.windowClose n) s = .next
             (if (l.1 : Int) - b.1 ≤ w.riseLimit then
               (if boundVessel s t = none then enterDone1 { u with progress := s.progress.set n .initial } t
                else { u with progress := s.progress.set n { s.progress[n] with state := .passWait } })
              else raiseHold { u with progress := s.progress.set n .initial } t .leak 0))
  ∧ (∀ (s : State) (n : Node) (cl : Clock) (t : Tag),
       s.tu.station[n].openEv = none → s.tu.station[n].closeEv = some cl → s.progress[n].state = .holdOpen →
       s.progress[n].tag = some t → s.progress[n].reports = 0 → s.progress[n].baseline = none → s.progress[n].last = none →
       exec (.windowClose n) s = .next (raiseHold
         { placeNotice { s with tu.station := s.tu.station.set n { s.tu.station[n] with closeEv := none } }
             (nodeNumber n) (.holdResult t false 0 0 0 0) with progress := s.progress.set n .initial } t .leak 0))
  ∧ ∀ (s : State) (t : Tag) (r : Record), lookup s t = some r → ∀ u : State,
       u = { s with records := s.records.map fun x => if x.tag = t then { x with stage := .done1, done1Stamp := some s.clock } else x } →
       (∀ n : Node, r.station = some n → enterDone1 s t = placeNotice u (nodeNumber n) (.stageDone t r.verdict r.recovered))
       ∧ (r.station = none → enterDone1 s t = u)

/-- The sample a vessel in BASELINE has asked for. Usable and below the fill limit, it is the net and the baseline gross: the valve opens,
the vessel is FILLING, the record EVACUATING, the entry in DWELL with the station channel at the effective dwell, and GRANT is sent (R114,
R91, R107). With the net at or above the fill limit the vessel is FULL, and without a usable sample FAULT with its cause; then it is
unbound, its entry stands at the head of its queue again, VESSEL is sent and a grant attempt follows (R114, R119, R126). The effective dwell
is the override, else the dwell of the class (R17). -/
def Obligations.BaselineSampleOpensTheValve : Prop :=
  (∀ (s : State) (v : VesselIx) (t : Tag) (n : Node) (x : Vessel),
     x = s.vu.vessels[v] → x.state = .baseline → x.bound = some (t, n) →
     (∀ (g : Int) (r : Record), lookup s t = some r → g - x.tareG < ((x.capacityG * x.fillPm / 1000 : Nat) : Int) →
       takeAnswer s (.vessel v) (some g) = placeNotice { s with
           vu.vessels := s.vu.vessels.set v { x with
             netG := some (g - x.tareG), baselineGross := some g, valve := true, state := .filling }
           records := s.records.map fun y => if y.tag = t then { y with stage := .evacuating } else y
           progress := s.progress.set n ⟨.dwell, some t, none, none, none, none, 0⟩
           tu.station := s.tu.station.set n
             ⟨.deadline (s.clock + sec (effectiveDwell s r)), none, none, none⟩ }
         (nodeNumber n) (.grant t v x.streamClass (effectiveDwell s r)))
     ∧ ∀ (gross : Option Int) (cause : VesselCause) (y : Vessel),
       (∃ g : Int, gross = some g ∧ ((x.capacityG * x.fillPm / 1000 : Nat) : Int) ≤ g - x.tareG ∧ cause = .full
           ∧ y = { x with netG := some (g - x.tareG), state := .full, bound := none })
         ∨ (gross = none ∧ cause = .baselineUnusable
           ∧ y = { x with state := .fault, bound := none, faultCause := some .baselineUnusable }) →
       takeAnswer s (.vessel v) gross = grantAttempt
         (placeNotice { s with
             vu := match x.streamClass with
               | .h => { s.vu with vessels := s.vu.vessels.set v y, inqH := ⟨n, t⟩ :: s.vu.inqH }
               | .f => { s.vu with vessels := s.vu.vessels.set v y, inqF := ⟨n, t⟩ :: s.vu.inqF } }
           14 (.vessel v x.streamClass y.state cause t y.netG (x.capacityG * x.fillPm / 1000) x.bookedTotalG))
         x.streamClass)
  ∧ ∀ (s : State) (r : Record), effectiveDwell s r = match r.dwellOverride, r.cls with
      | some d, _ => d
      | none, .h => s.cfg.dwellH
      | none, .f => s.cfg.dwellF
      | none, _ => 0

/-- The sample a vessel in FINAL has asked for. Usable, it is the net; the delta from the baseline gross joins booked_total_g, held within
32 bits, and the record is booked with it (R117, R127, R129 to R131). A delta below the negative tolerance raises SCALE_FAULT and the
verdict OVER raises OVER_YIELD (R128, R133). The vessel is unbound and goes FULL with VESSEL at its fill limit, else IDLE. Not usable, the
transfer is booked UNMEASURED, SCALE_FAULT is raised, and the vessel is FAULT with VESSEL (R118, R132). A record whose test has passed, or
whose LEAK was accepted, then becomes DONE1, and a grant attempt follows (R97, R100, R117); the stage that HOLD RAISED then reports is
assumption 16. -/
def Obligations.FinalSampleBooksTheTransfer : Prop :=
  ∀ (s : State) (v : VesselIx) (t : Tag) (n : Node) (x : Vessel) (r : Record),
    x = s.vu.vessels[v] → x.state = .final → x.bound = some (t, n) → lookup s t = some r →
    ∃ (ends : Bool) (after : Option Stage) (finish : State → State),
      (ends = true ↔ s.progress[n].tag = some t
        ∧ (s.progress[n].state = .acceptWait ∨ (s.progress[n].state = .passWait ∧ r.stage = .vacuumHold)))
      ∧ after = (if ends = true then some .done1 else none)
      ∧ finish = (fun u => grantAttempt
          (if ends = true then enterDone1 { u with progress := u.progress.set n ⟨.none, none, none, none, none, none, 0⟩ } t else u)
          x.streamClass)
      ∧ (∀ g b : Int, x.baselineGross = some b →
        ∃ (delta booked : Int) (full : Bool) (u w : State),
          delta = g - b ∧ booked = max (-2147483648) (min (x.bookedTotalG + delta) 2147483647)
          ∧ (full = true ↔ ((x.capacityG * x.fillPm / 1000 : Nat) : Int) ≤ g - x.tareG)
          ∧ u = { s with
              vu.vessels := s.vu.vessels.set v { x with netG := some (g - x.tareG), bookedTotalG := booked }
              records := s.records.map fun y => if y.tag = t then bookMeasured s.cfg v delta y else y }
          ∧ w = (let a := if delta < -(s.cfg.negTolerance : Int) then raiseHold u t .scaleFault 0 after else u
                 if (bookMeasured s.cfg v delta r).verdict = .over then raiseHold a t .overYield 0 after else a)
          ∧ takeAnswer s (.vessel v) (some g) = finish
              (let c := { w with vu.vessels := w.vu.vessels.set v { x with
                 netG := some (g - x.tareG), bookedTotalG := booked, bound := none, baselineGross := none
                 state := if full = true then .full else .idle, faultCause := none } }
               if full = true then
                 placeNotice c 14 (.vessel v x.streamClass .full .full t (some (g - x.tareG)) (x.capacityG * x.fillPm / 1000) booked)
               else c))
      ∧ ∃ u : State,
        u = raiseHold { s with
          records := s.records.map fun y => if y.tag = t then
            { y with vessel := some v, transfers := min (y.transfers + 1) 4, verdict := .unmeasured } else y } t .scaleFault 0 after
        ∧ takeAnswer s (.vessel v) none = finish (placeNotice
            { u with vu.vessels := u.vu.vessels.set v { x with
              bound := none, baselineGross := none, state := .fault, faultCause := some .finalUnusable } }
            14 (.vessel v x.streamClass .fault .finalUnusable t x.netG (x.capacityG * x.fillPm / 1000) x.bookedTotalG))

/-- The settle expiry of a SETTLING vessel makes it FINAL and asks for the next sample of its scale, at once unusable from a disabled or
faulty one (R116, R150). An immediate answer gives its requester an unusable sample; of a vessel's baseline request that is FAULT with its
cause, the entry back at the head of its queue, VESSEL, and a grant attempt (R150, R114). That a command that is not due changes nothing is
the model's choice, assumption 1. -/
def Obligations.SettleAndImmediateAnswer : Prop :=
  ∀ (s : State) (v : VesselIx),
    (∀ d : Clock, s.tu.settle[v].expiry = some d → s.vu.vessels[v].state = .settling →
      exec (.settleExpiry v) s = .next { s with
        tu.settle := s.tu.settle.set v { s.tu.settle[v] with expiry := none }
        vu.vessels := s.vu.vessels.set v { s.vu.vessels[v] with state := .final }
        sn := if s.sn.sensors[s.vu.vessels[v].scaleSensor].enabled = false ∨ s.sn.sensors[s.vu.vessels[v].scaleSensor].state = .fault then
            { s.sn with immediate := s.sn.immediate ++ [.vessel v] }
          else { s.sn with requests := s.sn.requests ++ [⟨.vessel v, s.vu.vessels[v].scaleSensor⟩] } })
    ∧ (∀ (t : Tag) (n : Node), .vessel v ∈ s.sn.immediate → s.vu.vessels[v].state = .baseline → s.vu.vessels[v].bound = some (t, n) →
      ∃ x : Vessel, x = { s.vu.vessels[v] with state := .fault, bound := none, faultCause := some .baselineUnusable }
        ∧ exec (.immediateUnusableAnswer (.vessel v)) s = .next (grantAttempt
          (placeNotice { s with
              sn.immediate := s.sn.immediate.erase (.vessel v)
              vu := match x.streamClass with
                | .h => { s.vu with vessels := s.vu.vessels.set v x, inqH := ⟨n, t⟩ :: s.vu.inqH }
                | .f => { s.vu with vessels := s.vu.vessels.set v x, inqF := ⟨n, t⟩ :: s.vu.inqF } }
            14 (.vessel v x.streamClass .fault .baselineUnusable t x.netG (x.capacityG * x.fillPm / 1000) x.bookedTotalG))
          x.streamClass))
    ∧ (∀ r : Requester, r ∈ s.sn.immediate →
      exec (.immediateUnusableAnswer r) s = .next (takeAnswer { s with sn.immediate := s.sn.immediate.erase r } r none))
    ∧ ∀ r : Requester, r ∉ s.sn.immediate → exec (.immediateUnusableAnswer r) s = .next s

/-- The gross of a scale count from 1 to 65,534 is the count less the zero, times the span, over 1,024, rounded half away from zero; 0 and
65,535 are not converted (R125). The shares of a batch sum to the total; each record's share is its floor share or one gram more, a larger
remainder never goes without while a smaller one gets a gram, and equal remainders are served in batch order (R135). A measured booking
writes the vessel, counts the transfer up to 4, and adds the refrigerant: the positive part of the delta times 1,000 less oil_pm, divided by
1,000 and rounded half away, up to 9,999 g. The verdict is UNDECLARED without a charge, else SHORT, COMPLETE or OVER as the yield in per
mille lies below, in or above the band (R129 to R131). Nothing else of the record changes. -/
def Obligations.BookingArithmetic : Prop :=
  (∀ (raw : Int) (zeroCount span : Nat), (convertible raw = true ↔ 1 ≤ raw ∧ raw ≤ 65534)
     ∧ ((zeroCount : Int) ≤ raw → grossOf raw zeroCount span = (2 * ((raw - zeroCount) * span) + 1024) / 2048)
     ∧ (raw < (zeroCount : Int) → grossOf raw zeroCount span = -((2 * ((zeroCount - raw) * span) + 1024) / 2048)))
  ∧ (∀ (total : Nat) (weights : List Nat), 0 < weights.sum →
     (apportion total weights).sum = total ∧ (apportion total weights).length = weights.length
     ∧ (∀ i : Nat, i < weights.length →
       (apportion total weights).getD i 0 = total * weights.getD i 0 / weights.sum
         ∨ (apportion total weights).getD i 0 = total * weights.getD i 0 / weights.sum + 1)
     ∧ ∀ i j : Nat, i < weights.length → j < weights.length →
       (total * weights.getD j 0 % weights.sum < total * weights.getD i 0 % weights.sum
         ∨ (total * weights.getD j 0 % weights.sum = total * weights.getD i 0 % weights.sum ∧ i < j)) →
       (apportion total weights).getD j 0 = total * weights.getD j 0 / weights.sum + 1 →
       (apportion total weights).getD i 0 = total * weights.getD i 0 / weights.sum + 1)
  ∧ (∀ (c : ConfigTables) (v : VesselIx) (delta : Int) (r : Record) (oil : Nat),
       oil ≤ 1000 → (r.cls = .h ∧ oil = c.oilPmH) ∨ (r.cls = .f ∧ oil = c.oilPmF) →
       ∃ (g total : Nat) (verdict : Verdict),
         g = (delta.toNat * (1000 - oil) + 500) / 1000 ∧ total = min (r.recovered + g) 9999
         ∧ (r.declaredCharge = none → verdict = .undeclared)
         ∧ (∀ d y : Nat, r.declaredCharge = some d → y = min (total * 1000 / d) 1999 →
             (y < c.completeMin → verdict = .short)
             ∧ (c.completeMin ≤ y → y ≤ c.overMax → verdict = .complete)
             ∧ (c.completeMin ≤ y → c.overMax < y → verdict = .over))
         ∧ bookMeasured c v delta r
             = { r with vessel := some v, transfers := min (r.transfers + 1) 4, recovered := total, verdict := verdict })

/-- The sample CS has asked for of the condensate scale. Outside CONDENSING it is for nothing. To a PENDING baseline it is the baseline, or
FAILED when it cannot be used. In WEIGH, a usable one with a baseline PRESENT books the foam: the total is the difference, held within 0 to
65,535, and each record of the batch gets its share by foam weight; otherwise no total and no shares are kept (R134, R169; the discarded
values are assumption 27). Then UNLOADING is entered, unload_time running (R169, R170). -/
def Obligations.CondensateSampleBooksTheFoam : Prop :=
  ∀ (s : State) (gross : Option Int),
    (s.cs.phase ≠ .condensing → takeAnswer s .condensate gross = s)
    ∧ (s.cs.phase = .condensing → s.cs.baseline = .pending →
      takeAnswer s .condensate gross
        = { s with cs.baseline := match gross with | some g => .present g | none => .failed })
    ∧ (s.cs.phase = .condensing → s.cs.baseline ≠ .pending → s.cs.step ≠ .weigh → takeAnswer s .condensate gross = s)
    ∧ (s.cs.phase = .condensing → s.cs.step = .weigh →
      (∀ g b : Int, gross = some g → s.cs.baseline = .present b → s.cs.batchList.Nodup →
        ∃ (total : Nat) (weights : List Nat) (u : State),
          (total : Int) = max 0 (min (g - b) 65535)
          ∧ weights = s.cs.batchList.map (fun x => ((lookup s x).map (·.foamWeight)).getD 0)
          ∧ u = { s with
              cs.total := some total
              tu.phase := chStart (s.clock + sec s.cs.working.unloadTime)
              records := s.records.map fun y => if y.tag ∈ s.cs.batchList then
                { y with foamShare := some ((apportion total weights).getD (s.cs.batchList.idxOf y.tag) 0) } else y }
          ∧ takeAnswer s .condensate gross = enterPhase u .unloading .foamBooked)
      ∧ (s.cs.baseline ≠ .pending → gross = none ∨ (∀ b : Int, s.cs.baseline ≠ .present b) →
        takeAnswer s .condensate gross = enterPhase { s with
          cs.total := none
          tu.phase := chStart (s.clock + sec s.cs.working.unloadTime)
          records := s.records.map fun y => if y.tag ∈ s.cs.batchList then { y with foamShare := none } else y }
          .unloading .foamBooked))

/-! ## Sensors, chamber and inputs -/

/-- A slot that is due with no poll in flight begins the poll of the first enabled entry after the one last polled, counting upward and
wrapping, with the address and sample_index it then holds, and the next slot is due slot_interval later (R142, R143). The nominal begin of a
late slot is assumption 19. That a command that is not due changes nothing is the model's choice, assumption 1. -/
def Obligations.SlotPollsTheNextEntry : Prop :=
  ∀ s : State,
    (s.sn.inFlight ≠ none ∨ reached s.clock s.sn.slotDue = false → exec .slotStart s = .next s)
    ∧ (s.sn.inFlight = none → reached s.clock s.sn.slotDue = true →
      ((∀ i : SensorIx, s.sn.sensors[i].enabled = false) →
        exec .slotStart s = .next { s with sn.slotDue := s.sn.slotDue + msec s.cfg.slotInterval })
      ∧ ∀ (i : SensorIx) (k : Nat), k < 16 → i.val = (s.sn.lastPolled.val + k + 1) % 16 → s.sn.sensors[i].enabled = true →
        (∀ j : SensorIx, ∀ m : Nat, m < k → j.val = (s.sn.lastPolled.val + m + 1) % 16 → s.sn.sensors[j].enabled = false) →
        exec .slotStart s = .next { s with
          sn.slotDue := s.sn.slotDue + msec s.cfg.slotInterval
          sn.lastPolled := i
          sn.inFlight := some ⟨i, s.sn.sensors[i].address, s.sn.sensors[i].sampleIndex, false⟩ })

/-- The end of a poll. SN has sent its steps up to one not acknowledged, or all, with acknowledgements of the two data bytes, and a stop,
and a second transaction only when the first failed (R143, R145; that the signals are kept is assumption 35). A transaction succeeds when
every step is acknowledged and the check byte agrees: a remainder that begins at 0xFF, takes the high and the low byte, and shifts eight
times for each with the polynomial 0x31 (R144). The word of the first that succeeds is the outcome. Failed, an entry below 3 failures counts
one more and nothing else, at the third it is FAULT, stale and latched, LIMIT is sent and the outcome handed on; a FAULT entry only counts.
Good, the decoded value is latest with its stamp and is judged, LIMIT tells a change of state and the outcome is handed on (R145 to R152).
Handed on, CS takes it for its phase, and then the requests pending on the entry are answered, CS's first and the vessels' in the order they
were made, but for one withdrawn meanwhile (R150, R151; the order is assumption 15). A poll of an entry disabled meanwhile is discarded
(R141). That a command that is not due changes nothing is the model's choice, assumption 1. -/
def Obligations.PollEndJudgesTheSample : Prop :=
  (∀ (s : State) (first retry : Transaction),
     (s.sn.inFlight = none → exec (.pollEnd first retry) s = .next s)
     ∧ ∀ (p : Poll) (e : Sensor) (u : State), s.sn.inFlight = some p → e = s.sn.sensors[p.index] →
       u = { s with
         sn.inFlight := none
         sn.sent := transactionSent p first ++ (if transactionWord first = none then transactionSent p retry else [])
         sn.slotDue := if reached s.clock s.sn.slotDue = true then s.clock else s.sn.slotDue } →
       (p.discarded = true → exec (.pollEnd first retry) s = .next u)
       ∧ (p.discarded = false → pollWord first retry = none →
         (e.state = .fault → exec (.pollEnd first retry) s = .next { u with
           sn.sensors := s.sn.sensors.set p.index { e with failCount := min (e.failCount + 1) 3, goodCount := 0 } })
         ∧ (e.state ≠ .fault → e.failCount < 2 → exec (.pollEnd first retry) s = .next { u with
           sn.sensors := s.sn.sensors.set p.index { e with failCount := e.failCount + 1 } })
         ∧ (e.state ≠ .fault → 2 ≤ e.failCount →
           ∃ x : Sensor, x = { e with failCount := 3, state := .fault, stale := true, faultLatch := true, goodCount := 0 }
             ∧ exec (.pollEnd first retry) s = .next (handOutcome (placeNotice
                 { u with sn.sensors := s.sn.sensors.set p.index x }
                 14 (.limit p.index e.kind e.state .fault ((e.latest.map (·.1)).getD 0) true e.saturated
                   (optAgeMs s.clock (e.latest.map (·.2))))) p.index false none)))
       ∧ ∀ w : Nat, p.discarded = false → pollWord first retry = some w →
         ∃ (v : Int) (x : Sensor) (fresh : SensorState),
           v = (match e.kind with
             | .o2 => min (w : Int) 250
             | .lel => min (w : Int) 1000
             | .temp => max (-1000) (min (if w < 32768 then (w : Int) else (w : Int) - 65536) 1000)
             | .scale => (w : Int))
           ∧ fresh = (if e.kind ≠ .scale ∧ e.thresholds.1 ≤ v then .high else .normal)
           ∧ x = { e with
               latest := some (v, s.clock)
               saturated := decide (e.kind = .scale ∧ (w = 0 ∨ w = 65535))
               failCount := 0
               stale := e.stale && !(decide (e.state = .fault ∧ 1 ≤ e.goodCount))
               goodCount := if e.state = .fault then (if 1 ≤ e.goodCount then 0 else e.goodCount + 1) else e.goodCount
               state := match e.state with
                 | .fault => if 1 ≤ e.goodCount then fresh else .fault
                 | .high => if e.kind ≠ .scale ∧ e.thresholds.2 < v then .high else .normal
                 | _ => fresh }
           ∧ exec (.pollEnd first retry) s = .next (handOutcome
               (if x.state = e.state then { u with sn.sensors := s.sn.sensors.set p.index x }
                else placeNotice { u with sn.sensors := s.sn.sensors.set p.index x }
                 14 (.limit p.index e.kind e.state x.state v x.stale x.saturated 0)) p.index true
               (if e.kind = .scale ∧ x.state ≠ .fault ∧ convertible v = true then some (grossOf v e.zero e.span) else none)))
  ∧ (∀ p : Poll,
       transactionSent p (.nack 0) = [.start, .addressWrite p.address, .stop]
       ∧ transactionSent p (.nack 1) = [.start, .addressWrite p.address, .byte p.sampleIndex, .stop]
       ∧ transactionSent p (.nack 2)
           = [.start, .addressWrite p.address, .byte p.sampleIndex, .repeatedStart, .addressRead p.address, .stop]
       ∧ ∀ high low check : Byte, transactionSent p (.bytes high low check)
           = [.start, .addressWrite p.address, .byte p.sampleIndex, .repeatedStart, .addressRead p.address,
              .acknowledge, .acknowledge, .noAcknowledge, .stop])
  ∧ (∀ (s : State) (i : SensorIx) (good : Bool) (gross : Option Int) (due : List SampleRequest),
      due = (s.sn.requests.filter fun q => q.index == i && q.requester == .condensate)
        ++ (s.sn.requests.filter fun q => q.index == i && q.requester != .condensate) →
      handOutcome s i good gross = due.foldl (fun u q =>
        if q ∈ u.sn.requests then takeAnswer { u with sn.requests := u.sn.requests.erase q } q.requester gross else u)
        (chamberSensor s i good))
  ∧ ∀ (high low check : Byte) (first retry : Transaction) (shift : Byte → Byte),
      (∀ x : Byte, shift x = if x.getLsbD 7 = true then (x <<< 1) ^^^ 0x31#8 else x <<< 1) →
      checkByte high low = shift^[8] (shift^[8] (0xFF#8 ^^^ high) ^^^ low)
      ∧ (∀ k : Fin 3, transactionWord (.nack k) = none)
      ∧ (transactionWord (.bytes high low check) = if check = checkByte high low then some (high.toNat * 256 + low.toNat) else none)
      ∧ pollWord first retry = match transactionWord first with | some w => some w | none => transactionWord retry

/-- What CS does with an outcome of a sensor entry and with a door change. While the gas sensors are not failed, l is the effective LEL and
o the latest O2 (R136, R157). The effective LEL is the largest latest value of the named entries that are of kind LEL and not in FAULT; the
gas sensors are failed while none has one, or while the O2 entry is in FAULT or INIT, disabled or of another kind. SHREDDING aborts at
lel_abort, then at o2_abort; pauses at lel_pause, above o2_shred_max, with failed gas sensors and with the door open, in this order; else a
good LEL sample stages the duty duty_base plus the truncated (l less lel_target) times kp over 16, held in duty_min to 256 (R166, R137).
PAUSED aborts in the same way, and resumes with l at or below lel_resume, o at or below o2_shred_max and the door closed, into SHREDDING or,
shredding done, CONDENSING (R167). PURGING aborts at lel_abort and ends at the O2 entry's good sample when purge_min is done and o at or
below purge_target; a door that opens leads back to SEALING (R165). CONDENSING aborts at lel_abort and when the door opens, and the
condensing time runs only while the trap is cold (R168). With failed gas sensors no abort by gas is judged, and the O2 entry's events let
the LEL be judged again (assumption 17). SHRED_DRIVE follows the pattern under its interlock after every judging (R157). That a good sample
of a named entry of another kind than LEL stages no duty is the model's choice, assumption 42. -/
def Obligations.ChamberJudgesGasTrapAndDoor : Prop :=
  (∀ (s : State) (W : Recipe) (l o : Int) (bad shut : Bool) (paused : PhaseCause → State), W = s.cs.working →
     bad = gasFailed s → shut = s.tu.door.filtered → (bad = false → effectiveLel s = some l ∧ latestO2 s = some o) →
     paused = (fun c => enterPhase { s with
       tu.phase := chFreeze s.clock s.tu.phase
       tu.pause := chStart (s.clock + sec W.pauseMax) } .paused c) →
     (∀ sample : Bool,
       judgeShredding s sample =
         (if bad = false ∧ W.lelAbort ≤ l then enterAborted s .lelAbort
          else if bad = false ∧ W.o2Abort ≤ o then enterAborted s .o2Abort
          else if bad = false ∧ W.lelPause ≤ l then paused .lelPause
          else if bad = false ∧ W.o2ShredMax < o then paused .o2High
          else if bad = true then paused .gasFault
          else if shut = false then paused .doorOpened
          else if sample = true then
            { s with
              tu.pwm.staged :=
                min (max (W.dutyMin : Int) (min (W.dutyBase + Int.tdiv ((l - W.lelTarget) * W.kp) 16) 256)).toNat 256 }
          else s)
       ∧ ∀ u : State, u = { s with tu.pause := ⟨.idle, none⟩ } →
         judgePaused s sample =
         (if bad = false ∧ W.lelAbort ≤ l then enterAborted s .lelAbort
          else if bad = false ∧ W.o2Abort ≤ o then enterAborted s .o2Abort
          else if bad = false ∧ l ≤ W.lelResume ∧ o ≤ W.o2ShredMax ∧ shut = true then
            (if s.cs.shredDone = true then enterCondensing u .resume
             else judgeShredding (enterPhase { u with tu.phase := chResume s.clock s.tu.phase } .shredding .resume) sample)
          else s))
     ∧ (∀ (i : SensorIx) (good lel o2 sample : Bool),
       (lel = true ↔ W.lel1Sensor = i ∨ W.lel2Sensor = some i) → (o2 = true ↔ W.o2Sensor = i) →
       (sample = true ↔ good = true ∧ lel = true ∧ s.sn.sensors[i].kind = .lel ∧ s.sn.sensors[i].state ≠ .fault) →
       chamberSensor s i good = judgeDrive (match s.cs.phase with
         | .purging =>
           if lel = true ∧ bad = false ∧ W.lelAbort ≤ l then enterAborted s .lelAbort
           else if o2 = true ∧ good = true ∧ s.cs.purgeMinDone = true ∧ bad = false ∧ o ≤ W.purgeTarget then enterShredding s
           else s
         | .shredding => if lel = true ∨ o2 = true then judgeShredding s sample else s
         | .paused => if lel = true ∨ o2 = true then judgePaused s sample else s
         | .condensing =>
           if (lel = true ∨ o2 = true) ∧ bad = false ∧ W.lelAbort ≤ l then enterAborted s .lelAbort
           else if W.trapSensor = i ∧ s.cs.step = .cooling then
             { s with tu.phase := if trapCold s = true then chResume s.clock s.tu.phase else chFreeze s.clock s.tu.phase }
           else s
         | _ => s))
     ∧ (trapCold s = true ↔ s.sn.sensors[W.trapSensor].kind = .temp ∧ s.sn.sensors[W.trapSensor].state ≠ .fault
         ∧ ∃ v : Int, s.sn.sensors[W.trapSensor].latest.map (·.1) = some v ∧ v ≤ W.trapMax)
     ∧ chamberDoor s = judgeDrive (match s.cs.phase with
         | .sealing => if shut = true then enterPurging s .doorClosed else s
         | .purging => if shut = true then s else enterSealing s .doorOpened
         | .shredding => judgeShredding s false
         | .paused => judgePaused s false
         | .condensing => if shut = true then s else enterAborted s .doorOpened
         | _ => s)
     ∧ ∃ drive : Bool, judgeDrive s = { s with cs.outputs.shredDrive := drive }
         ∧ (drive = true ↔ (patternOf W s.cs.phase).shredDrive = true ∧ s.cs.phase = .shredding ∧ shut = true ∧ bad = false
             ∧ o ≤ W.o2ShredMax ∧ l < W.lelPause))
  ∧ ∀ (s : State) (x : Sensor) (reads : SensorIx → Int → Prop), x = s.sn.sensors[s.cs.working.o2Sensor] →
      (∀ (i : SensorIx) (v : Int), reads i v ↔ (i = s.cs.working.lel1Sensor ∨ s.cs.working.lel2Sensor = some i)
        ∧ s.sn.sensors[i].kind = .lel ∧ s.sn.sensors[i].state ≠ .fault ∧ s.sn.sensors[i].latest.map (·.1) = some v) →
      (∀ l : Int, effectiveLel s = some l ↔ (∃ i : SensorIx, reads i l) ∧ ∀ (i : SensorIx) (v : Int), reads i v → v ≤ l)
      ∧ latestO2 s = x.latest.map (·.1)
      ∧ (gasFailed s = true ↔ x.state = .fault ∨ x.state = .init ∨ x.enabled = false ∨ x.kind ≠ .o2
          ∨ ∀ (i : SensorIx) (v : Int), ¬reads i v)

/-- A phase entry drives every output to the pattern of the phase. N2_PROP given OFF or ON takes that level and stops the generator, the
applied duty 0 (R81); given PWM the generator is started if STOPPED, with the duty staged at the entry: 256 in PAUSED, else duty_base
limited to duty_min to 256 (R156), in ABORTED too, which is the model's choice (assumption 38); in SHREDDING and PAUSED it is staged
whatever the pattern gives, and in another phase without PWM the staged duty stays (assumption 28). SHRED_DRIVE is on only under the
interlock (R157). PHASE is sent (R155), and nothing else changes. -/
def Obligations.PhaseEntryDrivesThePattern : Prop :=
  ∀ (s t : State) (p : Phase) (cause : PhaseCause) (row : PatternRow) (duty : Nat), t = enterPhase s p cause →
    row = (match p with
      | .idle => s.cs.working.patterns.idle | .loading => s.cs.working.patterns.loading | .sealing => s.cs.working.patterns.sealing
      | .purging => s.cs.working.patterns.purging | .shredding => s.cs.working.patterns.shredding
      | .paused => s.cs.working.patterns.paused | .condensing => s.cs.working.patterns.condensing
      | .unloading => s.cs.working.patterns.unloading | .aborted => s.cs.working.patterns.aborted
      | .safe => ⟨.off, true, false, false, false, false, true, false, false, false⟩) →
    duty = (if p = .paused then 256 else min (max s.cs.working.dutyBase s.cs.working.dutyMin) 256) → s.cs.working.dutyMin ≤ 256 →
    t = { s with cs := { s.cs with phase := p, outputs := t.cs.outputs }, tu.pwm := t.tu.pwm, lp := t.lp }
      ∧ t.cs.outputs.n2Full = row.n2Full ∧ t.cs.outputs.vent = row.vent ∧ t.cs.outputs.circFan = row.circFan
      ∧ t.cs.outputs.trapCool = row.trapCool ∧ t.cs.outputs.doorLock = row.doorLock ∧ t.cs.outputs.discharge = row.discharge
      ∧ t.cs.outputs.drain = row.drain ∧ t.cs.outputs.beacon = row.beacon
      ∧ (t.cs.outputs.shredDrive = true ↔ row.shredDrive = true ∧ p = .shredding ∧ s.tu.door.filtered = true ∧ gasFailed s = false
          ∧ (∃ v : Int, latestO2 s = some v ∧ v ≤ s.cs.working.o2ShredMax)
          ∧ ¬∃ v : Int, effectiveLel s = some v ∧ (s.cs.working.lelPause : Int) ≤ v)
      ∧ (row.n2Prop = .off → t.cs.outputs.n2Prop = false) ∧ (row.n2Prop = .on → t.cs.outputs.n2Prop = true)
      ∧ (row.n2Prop ≠ .pwm → t.tu.pwm = ⟨none, if p = .shredding ∨ p = .paused then duty else s.tu.pwm.staged, 0⟩)
      ∧ (row.n2Prop = .pwm → t.tu.pwm.staged = duty
          ∧ (s.tu.pwm.current = none →
            t.tu.pwm.applied = duty ∧ t.cs.outputs.n2Prop = decide (0 < duty * s.cs.working.pwmPeriod / 256)
            ∧ t.tu.pwm.current = some ⟨s.clock, s.cs.working.pwmPeriod, duty * s.cs.working.pwmPeriod / 256⟩)
          ∧ (s.tu.pwm.current ≠ none →
            t.tu.pwm.current = s.tu.pwm.current ∧ t.tu.pwm.applied = s.tu.pwm.applied ∧ t.cs.outputs.n2Prop = s.cs.outputs.n2Prop))
      ∧ t.lp = (placeNotice s 14 (.phase s.cs.phase p cause (if s.cs.batchList = [] then 0 else s.cs.batchCounter)
          s.cs.batchList.length)).lp

/-- What CS does at the entry into a phase, before and after its pattern is driven. Loading closes by stopping the load channel; SEALING
runs seal_timeout and with the door closed goes on to PURGING (R163, R164); PURGING runs purge_min afresh (R165); SHREDDING runs shred_time
and is judged at once (R166). CONDENSING holds condense_time, running only while the trap is cold, and asks for the baseline where it is
NONE, at once unusable from a disabled or faulty entry (R168). ABORTED stops the channels, withdraws the condensate request, and raises
CHAMBER_ABORT on every record of the batch in its order (R171). The end of UNLOADING retires the batch head first, each with its DISCHARGE
REPORT, clears the batch's marks, enters IDLE, and goes on to LOADING in RUN (R170, R22, R23). -/
def Obligations.ChamberPhasesBeginAndEnd : Prop :=
  ∀ s : State,
    (∀ cause : PhaseCause,
      closeLoading s cause = enterSealing { s with tu.load := ⟨.idle, none⟩ } cause
      ∧ (∃ u : State,
        u = enterPhase { s with tu.phase := chStart (s.clock + sec s.cs.working.sealTimeout) } .sealing cause
        ∧ enterSealing s cause = if s.tu.door.filtered = true then enterPurging u .doorClosed else u)
      ∧ enterPurging s cause = enterPhase { s with
          cs.purgeMinDone := false
          tu.phase := chStart (s.clock + sec s.cs.working.purgeMin) } .purging cause
      ∧ (∃ u : State,
        u = enterPhase { s with
          cs.step := .cooling
          tu.phase := ⟨.frozen (s.cs.working.condenseTime * 1000), none⟩ } .condensing cause
        ∧ enterCondensing s cause = { u with
          tu.phase := if trapCold s = true then ⟨.running (s.clock + msec (s.cs.working.condenseTime * 1000)), none⟩
            else ⟨.frozen (s.cs.working.condenseTime * 1000), none⟩
          cs.baseline := if s.cs.baseline = .none then .pending else s.cs.baseline
          sn := if s.cs.baseline ≠ .none then s.sn
            else if s.sn.sensors[s.cs.working.condensateSensor].enabled = false
              ∨ s.sn.sensors[s.cs.working.condensateSensor].state = .fault then
              { s.sn with immediate := s.sn.immediate ++ [.condensate] }
            else { s.sn with requests := s.sn.requests ++ [⟨.condensate, s.cs.working.condensateSensor⟩] } })
      ∧ enterAborted s cause = s.cs.batchList.foldl (fun u t => raiseHold u t .chamberAbort 0) (enterPhase { s with
          tu.phase := ⟨.idle, none⟩, tu.pause := ⟨.idle, none⟩, tu.load := ⟨.idle, none⟩
          sn.requests := s.sn.requests.filter (·.requester != .condensate)
          sn.immediate := s.sn.immediate.filter (· != .condensate)
          cs.baseline := if s.cs.baseline = .pending then .none else s.cs.baseline } .aborted cause)
      ∧ ∀ t ∈ s.cs.batchList, ∀ r : Record, lookup s t = some r →
          ∃ x : Record, lookup (enterAborted s cause) t = some x ∧ carries x .chamberAbort = true)
    ∧ enterShredding s = judgeShredding (enterPhase { s with
        cs.shredDone := false
        tu.phase := chStart (s.clock + sec s.cs.working.shredTime) } .shredding .purgeDone) false
    ∧ (∃ u w : State,
      u = s.cs.batchList.foldl (fun u t => retireRecord u .chamber t) s
      ∧ w = enterPhase { u with
          cs.batchList := [], cs.ffCount := 0, cs.step := .none, cs.baseline := .none, cs.total := none } .idle .unloadTime
      ∧ endUnloading s = if s.line.state = .run then enterLoading w else w)
    ∧ (∀ (t : Tag) (r : Record), lookup s t = some r →
      retireRecord s .chamber t = { placeNotice s 14 (.discharge r.tag .chamber r.enrolledClass r.cls r.foamClass
          (r.declaredCharge.getD 0) r.transfers r.recovered r.verdict (r.batch.getD 0) r.foamShare (holdMarks r)
          (min ((s.clock - r.enrolStamp).toNat / 1000) 65535)) with
        zu.chamber := s.zu.chamber.filter (· != t)
        records := s.records.filter (·.tag != t) })
    ∧ ∀ t ∈ s.cs.batchList, lookup (endUnloading s) t = none

/-- Chamber Restart and Chamber Clear are taken in RUN and ABORTED only, a Restart with the door closed: CHAMBER_ABORT leaves the records of the
batch. A Restart enters PURGING, purge_min timed afresh (R172). A Clear removes shares, T and the baseline and enters UNLOADING, unload_time running
(R173). -/
def Obligations.RestartAndClearLeaveAborted : Prop :=
  ∀ (s : State) (f : Frame) (rest : List Frame),
    (FromSupervisor s .chamberRestart f rest →
      (s.line.state ≠ .run →
        exec .chamberRestart s = .next (answeredWith (popped s rest) (refusedFrame 14 0x3A .lineState)))
      ∧ (s.line.state = .run → s.cs.phase ≠ .aborted ∨ s.tu.door.filtered = false →
        exec .chamberRestart s = .next (answeredWith (popped s rest) (refusedFrame 14 0x3A .badStage)))
      ∧ (s.line.state = .run → s.cs.phase = .aborted → s.tu.door.filtered = true →
        ∃ u : State,
          u = { popped s rest with
            records := s.records.map fun x => if x.tag ∈ s.cs.batchList then
              { x with holds := x.holds.filter (·.reason != .chamberAbort) } else x
            cs.purgeMinDone := false
            tu.phase := chStart (s.clock + sec s.cs.working.purgeMin) }
          ∧ exec .chamberRestart s = .next (answeredWith (enterPhase u .purging .chamberRestart) (doneFrame 14 0x3A .empty))))
    ∧ (FromSupervisor s .chamberClear f rest →
      (s.line.state ≠ .run →
        exec .chamberClear s = .next (answeredWith (popped s rest) (refusedFrame 14 0x3B .lineState)))
      ∧ (s.line.state = .run → s.cs.phase ≠ .aborted →
        exec .chamberClear s = .next (answeredWith (popped s rest) (refusedFrame 14 0x3B .badStage)))
      ∧ (s.line.state = .run → s.cs.phase = .aborted →
        ∃ u : State,
          u = { popped s rest with
            records := s.records.map fun x => if x.tag ∈ s.cs.batchList then
              { x with holds := x.holds.filter (·.reason != .chamberAbort), foamShare := none } else x
            cs.total := none
            cs.baseline := .none
            tu.phase := chStart (s.clock + sec s.cs.working.unloadTime) }
          ∧ exec .chamberClear s = .next (answeredWith (enterPhase u .unloading .chamberClear) (doneFrame 14 0x3B .empty))))

/-- The expiry of a chamber channel acts by the phase: seal_timeout and purge_max abort; purge_min sets purge_min_done and starts purge_max
from the entry, the purge ending at once where O2 is low enough; shred_time leads to CONDENSING; in PAUSED it sets shred_done; condense_time
leads to SETTLE and that to WEIGH, a baseline still PENDING then FAILED; unload_time ends the batch; another phase takes none. pause_max
aborts in PAUSED. The load wait sets load_expired and selects (R162 to R170). That load_expired is set in every phase is assumption 18. -/
def Obligations.ChamberExpiriesActByPhase : Prop :=
  ∀ (s : State) (d : Clock),
    (s.tu.phase.expiry = some d → ∀ u : State, u = { s with tu.phase := { s.tu.phase with expiry := none } } →
      (s.cs.phase = .sealing → exec .phaseExpiry s = .next (enterAborted u .sealTimeout))
      ∧ (s.cs.phase = .purging → s.cs.purgeMinDone = true → exec .phaseExpiry s = .next (enterAborted u .purgeMax))
      ∧ (s.cs.phase = .purging → s.cs.purgeMinDone = false →
        ∃ v : State,
          v = { s with
            cs.purgeMinDone := true
            tu.phase := chStart (d - sec s.cs.working.purgeMin + sec s.cs.working.purgeMax) }
          ∧ ((∃ o : Int, gasFailed s = false ∧ latestO2 s = some o ∧ o ≤ s.cs.working.purgeTarget) →
              exec .phaseExpiry s = .next (enterShredding v))
          ∧ ((gasFailed s = true ∨ ∀ o : Int, latestO2 s = some o → (s.cs.working.purgeTarget : Int) < o) →
              exec .phaseExpiry s = .next v))
      ∧ (s.cs.phase = .shredding → exec .phaseExpiry s = .next (enterCondensing u .shredTime))
      ∧ (s.cs.phase = .paused → exec .phaseExpiry s = .next { u with cs.shredDone := true })
      ∧ (s.cs.phase = .condensing → s.cs.step = .cooling →
        exec .phaseExpiry s = .next { s with
          cs.step := .settle
          tu.phase := chStart (d + sec s.cs.working.condenseSettle) })
      ∧ (s.cs.phase = .condensing → s.cs.step = .settle → s.cs.baseline ≠ .pending →
        exec .phaseExpiry s = .next { u with
          cs.step := .weigh
          sn := if s.sn.sensors[s.cs.working.condensateSensor].enabled = false
                ∨ s.sn.sensors[s.cs.working.condensateSensor].state = .fault then
              { s.sn with immediate := s.sn.immediate ++ [.condensate] }
            else { s.sn with requests := s.sn.requests ++ [⟨.condensate, s.cs.working.condensateSensor⟩] } })
      ∧ (s.cs.phase = .condensing → s.cs.step = .settle → s.cs.baseline = .pending →
        exec .phaseExpiry s = .next (requestSample { u with
          cs.step := .weigh
          cs.baseline := .failed
          sn.requests := s.sn.requests.filter (·.requester != .condensate)
          sn.immediate := s.sn.immediate.filter (· != .condensate) } .condensate s.cs.working.condensateSensor))
      ∧ (s.cs.phase = .unloading → exec .phaseExpiry s = .next (endUnloading u))
      ∧ (s.cs.phase = .idle ∨ s.cs.phase = .loading ∨ s.cs.phase = .aborted ∨ s.cs.phase = .safe → exec .phaseExpiry s = .next u))
    ∧ (s.tu.pause.expiry = some d → ∀ u : State, u = { s with tu.pause := { s.tu.pause with expiry := none } } →
      exec .pauseExpiry s = .next (if s.cs.phase = .paused then enterAborted u .pauseMax else u))
    ∧ (s.tu.load.expiry = some d → ∀ u : State, u = { s with tu.load := { s.tu.load with expiry := none } } →
      exec .loadExpiry s = .next (selectionAttempt { u with cs.loadExpired := true }))

/-- At the end of a period the staged duty is applied, pwm_period read, and the output active for the applied duty times pwm_period over 256,
floored; it goes inactive when that time has run, unless it is the whole period. A STOPPED generator does nothing (R81).
The nominal begin of a late period is assumption 19. That a command that is not due changes nothing is the model's choice, assumption 1. -/
def Obligations.PwmPeriodAppliesTheDuty : Prop :=
  ∀ s : State,
    (s.tu.pwm.current = none → exec .pwmPeriodStart s = .next s ∧ exec .activeTimeEnd s = .next s)
    ∧ ∀ c : PwmPeriod, s.tu.pwm.current = some c →
      (reached s.clock (c.start + msec c.period) = true →
        exec .pwmPeriodStart s = .next { s with
          tu.pwm := { s.tu.pwm with
            applied := s.tu.pwm.staged
            current := some ⟨c.start + msec c.period, s.cs.working.pwmPeriod, s.tu.pwm.staged * s.cs.working.pwmPeriod / 256⟩ }
          cs.outputs.n2Prop := decide (0 < s.tu.pwm.staged * s.cs.working.pwmPeriod / 256) })
      ∧ (reached s.clock (c.start + msec c.period) = false → exec .pwmPeriodStart s = .next s)
      ∧ (c.activeTime < c.period → reached s.clock (c.start + msec c.activeTime) = true →
        exec .activeTimeEnd s = .next { s with cs.outputs.n2Prop := false })
      ∧ (c.period ≤ c.activeTime ∨ reached s.clock (c.start + msec c.activeTime) = false → exec .activeTimeEnd s = .next s)

/-- Of every input, a raw level that leaves the filtered level becomes the candidate with its stamp and the filter_time then read; one that
returns before it has held drops it (R83). Accepted, the filtered level changes; a barrier moves its capture slot, and the clearing of a
BROKEN slot gives a passage event with the candidate's stamp (R85), delivered then (R87, assumption 36); a door change is handed to CS
(R84). Before filter_time nothing is accepted. That a candidate that has held its time is kept when the level returns, and how the raw level
stands beside a candidate, is assumption 8; an accepted change of the emergency stop is EmergencyStopAccepted. That a command that is not
due changes nothing is the model's choice, assumption 1. -/
def Obligations.InputsAreFilteredAndCaptured : Prop :=
  ∀ s : State,
    (∀ (i : Input) (level : Bool) (x : InputFilter) (put : InputFilter → State),
      x = (match i with | .barrier g => s.tu.barriers.get g | .door => s.tu.door | .estop => s.tu.estop) →
      put = (fun y => match i with
        | .barrier g => { s with tu.barriers := s.tu.barriers.set g y }
        | .door => { s with tu.door := y }
        | .estop => { s with tu.estop := y }) →
      (level = x.raw → exec (.rawInputChange i level) s = .next s)
      ∧ (level ≠ x.raw → x.candidate = none → level ≠ x.filtered →
        exec (.rawInputChange i level) s = .next (put ⟨level, s.clock, x.filtered, some ⟨s.clock, s.cfg.filterTime⟩⟩))
      ∧ (∀ c : Candidate, level ≠ x.raw → x.candidate = some c →
        (level = x.filtered → reached s.clock (c.stamp + msec c.filterTime) = false →
          exec (.rawInputChange i level) s = .next (put ⟨level, s.clock, x.filtered, none⟩))
        ∧ (level ≠ x.filtered ∨ reached s.clock (c.stamp + msec c.filterTime) = true →
          exec (.rawInputChange i level) s = .next (put ⟨level, s.clock, x.filtered, some c⟩)))
      ∧ (x.candidate = none ∨ (∃ c : Candidate, x.candidate = some c ∧ reached s.clock (c.stamp + msec c.filterTime) = false) →
        exec (.inputChangeAccepted i) s = .next s))
    ∧ (∀ (g : Gate) (x : InputFilter) (c : Candidate), x = s.tu.barriers.get g → x.candidate = some c → x.raw ≠ x.filtered →
      reached s.clock (c.stamp + msec c.filterTime) = true →
      exec (.inputChangeAccepted (.barrier g)) s = .next { s with
        tu.barriers := s.tu.barriers.set g ⟨x.raw, x.rawStamp, x.raw, none⟩
        tu.slots := s.tu.slots.set g (if x.raw = false then .clear else if s.tu.slots.get g = .clear then .broken else s.tu.slots.get g)
        tu.passages := if x.raw = false ∧ s.tu.slots.get g = .broken then s.tu.passages ++ [⟨g, c.stamp, s.clock, false⟩] else s.tu.passages })
    ∧ ∀ c : Candidate, s.tu.door.candidate = some c → s.tu.door.raw ≠ s.tu.door.filtered →
      reached s.clock (c.stamp + msec c.filterTime) = true →
      exec (.inputChangeAccepted .door) s
        = .next (chamberDoor { s with tu.door := ⟨s.tu.door.raw, s.tu.door.rawStamp, s.tu.door.raw, none⟩ })

/-! ## Invariants -/

/-- Every step keeps the request, transmit and notice queues at 16 entries or fewer. -/
def Obligations.QueuesStayBounded : Prop :=
  KeptByEveryStep QueuesBounded

/-- Every step keeps each inlet valve on exactly while its vessel is FILLING, and each gate's release on, with a record in passage, exactly
while the gate is RELEASED. -/
def Obligations.ValvesAndGatesFollowTheirStates : Prop :=
  KeptByEveryStep fun s => ValvesFollowState s ∧ GatesAgree s

/-- Every step keeps SHRED_DRIVE off unless the chamber is in SHREDDING, the door closed, the gas sensors not failed, the latest O2 at or below
o2_shred_max and the effective LEL below lel_pause. -/
def Obligations.DriveStaysInterlocked : Prop :=
  KeptByEveryStep DriveInterlocked

/-- Every step keeps the staged and applied duty at 256 or less, and the staged duty at duty_min or more in SHREDDING. -/
def Obligations.DutiesStayInRange : Prop :=
  KeptByEveryStep DutyInRange

/-- Every step keeps the tags of the cabinet table distinct and none of them reserved, no reason twice in a hold set, the counts and values
of the records in their ranges, and the batch counter and reevac_max on which these rest in theirs. -/
def Obligations.TableStaysSound : Prop :=
  KeptByEveryStep fun s => TagsDistinct s ∧ RecordsInRange s ∧ CountersInRange s

/-- Every step keeps every record in exactly one zone list, once, with nothing else in the lists (R24), no zone above its capacity with its
reserved place (R26), and record.station and the claim of the entry naming each other (R50, R27); with it the passages: a gate RELEASED only
in RUN, one lane gate at most, the record in passage where the gate takes it from, the batch in CHAMBER. -/
def Obligations.CabinetsStandInOneZone : Prop :=
  KeptByEveryStep fun s => TagsDistinct s ∧ GatesAgree s ∧ CabinetsStandOnce s ∧ PassagesAgree s

/-- Every step keeps each item of the line, class and zone tables in its range, hold_delay below hold_end, complete_min below over_max, and the
capacities at 64 places or fewer. -/
def Obligations.ConfigurationStaysInRange : Prop :=
  KeptByEveryStep ConfigInRange

/-- The invariants hold in the state after reset. -/
def Obligations.InvariantsHoldAtReset : Prop :=
  QueuesBounded State.reset ∧ (ValvesFollowState State.reset ∧ GatesAgree State.reset) ∧ DriveInterlocked State.reset
    ∧ DutyInRange State.reset ∧ (TagsDistinct State.reset ∧ RecordsInRange State.reset ∧ CountersInRange State.reset)
    ∧ ConfigInRange State.reset ∧ CabinetsStandOnce State.reset ∧ PassagesAgree State.reset
end

