-- ==== Sys2Proof/Laws/State.lean ====
section
/-!
SUPPORT. What each update leaves as it was: one lemma for each field of State and each update, so that no later proof unfolds an
update.
-/

namespace Sys2Proof.Machine

variable (s : State)

@[simp] theorem stageDuty_clock (d : Nat) : (stageDuty s d).clock = s.clock := rfl
@[simp] theorem stageDuty_line (d : Nat) : (stageDuty s d).line = s.line := rfl
@[simp] theorem stageDuty_lp (d : Nat) : (stageDuty s d).lp = s.lp := rfl
@[simp] theorem stageDuty_cfg (d : Nat) : (stageDuty s d).cfg = s.cfg := rfl
@[simp] theorem stageDuty_records (d : Nat) : (stageDuty s d).records = s.records := rfl
@[simp] theorem stageDuty_zu (d : Nat) : (stageDuty s d).zu = s.zu := rfl
@[simp] theorem stageDuty_stations (d : Nat) : (stageDuty s d).stations = s.stations := rfl
@[simp] theorem stageDuty_progress (d : Nat) : (stageDuty s d).progress = s.progress := rfl
@[simp] theorem stageDuty_vu (d : Nat) : (stageDuty s d).vu = s.vu := rfl
@[simp] theorem stageDuty_sn (d : Nat) : (stageDuty s d).sn = s.sn := rfl
@[simp] theorem stageDuty_cs (d : Nat) : (stageDuty s d).cs = s.cs := rfl
@[simp] theorem stageDuty_freeCount (d : Nat) : (stageDuty s d).freeCount = s.freeCount := rfl
@[simp] theorem stageDuty_pending (d : Nat) : (stageDuty s d).pending = s.pending := rfl

@[simp] theorem placeAnswer_clock (fs : List AnswerFrame) : (placeAnswer s fs).clock = s.clock := rfl
@[simp] theorem placeAnswer_line (fs : List AnswerFrame) : (placeAnswer s fs).line = s.line := rfl
@[simp] theorem placeAnswer_cfg (fs : List AnswerFrame) : (placeAnswer s fs).cfg = s.cfg := rfl
@[simp] theorem placeAnswer_records (fs : List AnswerFrame) : (placeAnswer s fs).records = s.records := rfl
@[simp] theorem placeAnswer_zu (fs : List AnswerFrame) : (placeAnswer s fs).zu = s.zu := rfl
@[simp] theorem placeAnswer_stations (fs : List AnswerFrame) : (placeAnswer s fs).stations = s.stations := rfl
@[simp] theorem placeAnswer_progress (fs : List AnswerFrame) : (placeAnswer s fs).progress = s.progress := rfl
@[simp] theorem placeAnswer_vu (fs : List AnswerFrame) : (placeAnswer s fs).vu = s.vu := rfl
@[simp] theorem placeAnswer_tu (fs : List AnswerFrame) : (placeAnswer s fs).tu = s.tu := rfl
@[simp] theorem placeAnswer_sn (fs : List AnswerFrame) : (placeAnswer s fs).sn = s.sn := rfl
@[simp] theorem placeAnswer_cs (fs : List AnswerFrame) : (placeAnswer s fs).cs = s.cs := rfl
@[simp] theorem placeAnswer_freeCount (fs : List AnswerFrame) : (placeAnswer s fs).freeCount = s.freeCount := rfl
@[simp] theorem placeAnswer_pending (fs : List AnswerFrame) : (placeAnswer s fs).pending = s.pending := rfl

@[simp] theorem placeNotice_clock (d : Nat) (b : NoticeBody) : (placeNotice s d b).clock = s.clock := by unfold placeNotice; split <;> rfl
@[simp] theorem placeNotice_line (d : Nat) (b : NoticeBody) : (placeNotice s d b).line = s.line := by unfold placeNotice; split <;> rfl
@[simp] theorem placeNotice_cfg (d : Nat) (b : NoticeBody) : (placeNotice s d b).cfg = s.cfg := by unfold placeNotice; split <;> rfl
@[simp] theorem placeNotice_records (d : Nat) (b : NoticeBody) : (placeNotice s d b).records = s.records := by unfold placeNotice; split <;> rfl
@[simp] theorem placeNotice_zu (d : Nat) (b : NoticeBody) : (placeNotice s d b).zu = s.zu := by unfold placeNotice; split <;> rfl
@[simp] theorem placeNotice_stations (d : Nat) (b : NoticeBody) : (placeNotice s d b).stations = s.stations := by unfold placeNotice; split <;> rfl
@[simp] theorem placeNotice_progress (d : Nat) (b : NoticeBody) : (placeNotice s d b).progress = s.progress := by unfold placeNotice; split <;> rfl
@[simp] theorem placeNotice_vu (d : Nat) (b : NoticeBody) : (placeNotice s d b).vu = s.vu := by unfold placeNotice; split <;> rfl
@[simp] theorem placeNotice_tu (d : Nat) (b : NoticeBody) : (placeNotice s d b).tu = s.tu := by unfold placeNotice; split <;> rfl
@[simp] theorem placeNotice_sn (d : Nat) (b : NoticeBody) : (placeNotice s d b).sn = s.sn := by unfold placeNotice; split <;> rfl
@[simp] theorem placeNotice_cs (d : Nat) (b : NoticeBody) : (placeNotice s d b).cs = s.cs := by unfold placeNotice; split <;> rfl
@[simp] theorem placeNotice_freeCount (d : Nat) (b : NoticeBody) : (placeNotice s d b).freeCount = s.freeCount := by unfold placeNotice; split <;> rfl
@[simp] theorem placeNotice_pending (d : Nat) (b : NoticeBody) : (placeNotice s d b).pending = s.pending := by unfold placeNotice; split <;> rfl

@[simp] theorem toSupervisor_clock (b : NoticeBody) : (toSupervisor s b).clock = s.clock := by unfold toSupervisor placeNotice; split <;> rfl
@[simp] theorem toSupervisor_line (b : NoticeBody) : (toSupervisor s b).line = s.line := by unfold toSupervisor placeNotice; split <;> rfl
@[simp] theorem toSupervisor_cfg (b : NoticeBody) : (toSupervisor s b).cfg = s.cfg := by unfold toSupervisor placeNotice; split <;> rfl
@[simp] theorem toSupervisor_records (b : NoticeBody) : (toSupervisor s b).records = s.records := by unfold toSupervisor placeNotice; split <;> rfl
@[simp] theorem toSupervisor_zu (b : NoticeBody) : (toSupervisor s b).zu = s.zu := by unfold toSupervisor placeNotice; split <;> rfl
@[simp] theorem toSupervisor_stations (b : NoticeBody) : (toSupervisor s b).stations = s.stations := by unfold toSupervisor placeNotice; split <;> rfl
@[simp] theorem toSupervisor_progress (b : NoticeBody) : (toSupervisor s b).progress = s.progress := by unfold toSupervisor placeNotice; split <;> rfl
@[simp] theorem toSupervisor_vu (b : NoticeBody) : (toSupervisor s b).vu = s.vu := by unfold toSupervisor placeNotice; split <;> rfl
@[simp] theorem toSupervisor_tu (b : NoticeBody) : (toSupervisor s b).tu = s.tu := by unfold toSupervisor placeNotice; split <;> rfl
@[simp] theorem toSupervisor_sn (b : NoticeBody) : (toSupervisor s b).sn = s.sn := by unfold toSupervisor placeNotice; split <;> rfl
@[simp] theorem toSupervisor_cs (b : NoticeBody) : (toSupervisor s b).cs = s.cs := by unfold toSupervisor placeNotice; split <;> rfl
@[simp] theorem toSupervisor_freeCount (b : NoticeBody) : (toSupervisor s b).freeCount = s.freeCount := by unfold toSupervisor placeNotice; split <;> rfl
@[simp] theorem toSupervisor_pending (b : NoticeBody) : (toSupervisor s b).pending = s.pending := by unfold toSupervisor placeNotice; split <;> rfl

@[simp] theorem updRecord_clock (t : Tag) (f : Record → Record) : (updRecord s t f).clock = s.clock := rfl
@[simp] theorem updRecord_line (t : Tag) (f : Record → Record) : (updRecord s t f).line = s.line := rfl
@[simp] theorem updRecord_lp (t : Tag) (f : Record → Record) : (updRecord s t f).lp = s.lp := rfl
@[simp] theorem updRecord_cfg (t : Tag) (f : Record → Record) : (updRecord s t f).cfg = s.cfg := rfl
@[simp] theorem updRecord_zu (t : Tag) (f : Record → Record) : (updRecord s t f).zu = s.zu := rfl
@[simp] theorem updRecord_stations (t : Tag) (f : Record → Record) : (updRecord s t f).stations = s.stations := rfl
@[simp] theorem updRecord_progress (t : Tag) (f : Record → Record) : (updRecord s t f).progress = s.progress := rfl
@[simp] theorem updRecord_vu (t : Tag) (f : Record → Record) : (updRecord s t f).vu = s.vu := rfl
@[simp] theorem updRecord_tu (t : Tag) (f : Record → Record) : (updRecord s t f).tu = s.tu := rfl
@[simp] theorem updRecord_sn (t : Tag) (f : Record → Record) : (updRecord s t f).sn = s.sn := rfl
@[simp] theorem updRecord_cs (t : Tag) (f : Record → Record) : (updRecord s t f).cs = s.cs := rfl
@[simp] theorem updRecord_freeCount (t : Tag) (f : Record → Record) : (updRecord s t f).freeCount = s.freeCount := rfl
@[simp] theorem updRecord_pending (t : Tag) (f : Record → Record) : (updRecord s t f).pending = s.pending := rfl

@[simp] theorem setStage_clock (t : Tag) (st : Stage) : (setStage s t st).clock = s.clock := rfl
@[simp] theorem setStage_line (t : Tag) (st : Stage) : (setStage s t st).line = s.line := rfl
@[simp] theorem setStage_lp (t : Tag) (st : Stage) : (setStage s t st).lp = s.lp := rfl
@[simp] theorem setStage_cfg (t : Tag) (st : Stage) : (setStage s t st).cfg = s.cfg := rfl
@[simp] theorem setStage_zu (t : Tag) (st : Stage) : (setStage s t st).zu = s.zu := rfl
@[simp] theorem setStage_stations (t : Tag) (st : Stage) : (setStage s t st).stations = s.stations := rfl
@[simp] theorem setStage_progress (t : Tag) (st : Stage) : (setStage s t st).progress = s.progress := rfl
@[simp] theorem setStage_vu (t : Tag) (st : Stage) : (setStage s t st).vu = s.vu := rfl
@[simp] theorem setStage_tu (t : Tag) (st : Stage) : (setStage s t st).tu = s.tu := rfl
@[simp] theorem setStage_sn (t : Tag) (st : Stage) : (setStage s t st).sn = s.sn := rfl
@[simp] theorem setStage_cs (t : Tag) (st : Stage) : (setStage s t st).cs = s.cs := rfl
@[simp] theorem setStage_freeCount (t : Tag) (st : Stage) : (setStage s t st).freeCount = s.freeCount := rfl
@[simp] theorem setStage_pending (t : Tag) (st : Stage) : (setStage s t st).pending = s.pending := rfl

@[simp] theorem updStation_clock (n : Node) (f : StationEntry → StationEntry) : (updStation s n f).clock = s.clock := rfl
@[simp] theorem updStation_line (n : Node) (f : StationEntry → StationEntry) : (updStation s n f).line = s.line := rfl
@[simp] theorem updStation_lp (n : Node) (f : StationEntry → StationEntry) : (updStation s n f).lp = s.lp := rfl
@[simp] theorem updStation_cfg (n : Node) (f : StationEntry → StationEntry) : (updStation s n f).cfg = s.cfg := rfl
@[simp] theorem updStation_records (n : Node) (f : StationEntry → StationEntry) : (updStation s n f).records = s.records := rfl
@[simp] theorem updStation_zu (n : Node) (f : StationEntry → StationEntry) : (updStation s n f).zu = s.zu := rfl
@[simp] theorem updStation_progress (n : Node) (f : StationEntry → StationEntry) : (updStation s n f).progress = s.progress := rfl
@[simp] theorem updStation_vu (n : Node) (f : StationEntry → StationEntry) : (updStation s n f).vu = s.vu := rfl
@[simp] theorem updStation_tu (n : Node) (f : StationEntry → StationEntry) : (updStation s n f).tu = s.tu := rfl
@[simp] theorem updStation_sn (n : Node) (f : StationEntry → StationEntry) : (updStation s n f).sn = s.sn := rfl
@[simp] theorem updStation_cs (n : Node) (f : StationEntry → StationEntry) : (updStation s n f).cs = s.cs := rfl
@[simp] theorem updStation_freeCount (n : Node) (f : StationEntry → StationEntry) : (updStation s n f).freeCount = s.freeCount := rfl
@[simp] theorem updStation_pending (n : Node) (f : StationEntry → StationEntry) : (updStation s n f).pending = s.pending := rfl

@[simp] theorem updProgress_clock (n : Node) (f : Progress → Progress) : (updProgress s n f).clock = s.clock := rfl
@[simp] theorem updProgress_line (n : Node) (f : Progress → Progress) : (updProgress s n f).line = s.line := rfl
@[simp] theorem updProgress_lp (n : Node) (f : Progress → Progress) : (updProgress s n f).lp = s.lp := rfl
@[simp] theorem updProgress_cfg (n : Node) (f : Progress → Progress) : (updProgress s n f).cfg = s.cfg := rfl
@[simp] theorem updProgress_records (n : Node) (f : Progress → Progress) : (updProgress s n f).records = s.records := rfl
@[simp] theorem updProgress_zu (n : Node) (f : Progress → Progress) : (updProgress s n f).zu = s.zu := rfl
@[simp] theorem updProgress_stations (n : Node) (f : Progress → Progress) : (updProgress s n f).stations = s.stations := rfl
@[simp] theorem updProgress_vu (n : Node) (f : Progress → Progress) : (updProgress s n f).vu = s.vu := rfl
@[simp] theorem updProgress_tu (n : Node) (f : Progress → Progress) : (updProgress s n f).tu = s.tu := rfl
@[simp] theorem updProgress_sn (n : Node) (f : Progress → Progress) : (updProgress s n f).sn = s.sn := rfl
@[simp] theorem updProgress_cs (n : Node) (f : Progress → Progress) : (updProgress s n f).cs = s.cs := rfl
@[simp] theorem updProgress_freeCount (n : Node) (f : Progress → Progress) : (updProgress s n f).freeCount = s.freeCount := rfl
@[simp] theorem updProgress_pending (n : Node) (f : Progress → Progress) : (updProgress s n f).pending = s.pending := rfl

@[simp] theorem clearProgress_clock (n : Node) : (clearProgress s n).clock = s.clock := rfl
@[simp] theorem clearProgress_line (n : Node) : (clearProgress s n).line = s.line := rfl
@[simp] theorem clearProgress_lp (n : Node) : (clearProgress s n).lp = s.lp := rfl
@[simp] theorem clearProgress_cfg (n : Node) : (clearProgress s n).cfg = s.cfg := rfl
@[simp] theorem clearProgress_records (n : Node) : (clearProgress s n).records = s.records := rfl
@[simp] theorem clearProgress_zu (n : Node) : (clearProgress s n).zu = s.zu := rfl
@[simp] theorem clearProgress_stations (n : Node) : (clearProgress s n).stations = s.stations := rfl
@[simp] theorem clearProgress_vu (n : Node) : (clearProgress s n).vu = s.vu := rfl
@[simp] theorem clearProgress_tu (n : Node) : (clearProgress s n).tu = s.tu := rfl
@[simp] theorem clearProgress_sn (n : Node) : (clearProgress s n).sn = s.sn := rfl
@[simp] theorem clearProgress_cs (n : Node) : (clearProgress s n).cs = s.cs := rfl
@[simp] theorem clearProgress_freeCount (n : Node) : (clearProgress s n).freeCount = s.freeCount := rfl
@[simp] theorem clearProgress_pending (n : Node) : (clearProgress s n).pending = s.pending := rfl

@[simp] theorem updVessel_clock (v : VesselIx) (f : Vessel → Vessel) : (updVessel s v f).clock = s.clock := rfl
@[simp] theorem updVessel_line (v : VesselIx) (f : Vessel → Vessel) : (updVessel s v f).line = s.line := rfl
@[simp] theorem updVessel_lp (v : VesselIx) (f : Vessel → Vessel) : (updVessel s v f).lp = s.lp := rfl
@[simp] theorem updVessel_cfg (v : VesselIx) (f : Vessel → Vessel) : (updVessel s v f).cfg = s.cfg := rfl
@[simp] theorem updVessel_records (v : VesselIx) (f : Vessel → Vessel) : (updVessel s v f).records = s.records := rfl
@[simp] theorem updVessel_zu (v : VesselIx) (f : Vessel → Vessel) : (updVessel s v f).zu = s.zu := rfl
@[simp] theorem updVessel_stations (v : VesselIx) (f : Vessel → Vessel) : (updVessel s v f).stations = s.stations := rfl
@[simp] theorem updVessel_progress (v : VesselIx) (f : Vessel → Vessel) : (updVessel s v f).progress = s.progress := rfl
@[simp] theorem updVessel_tu (v : VesselIx) (f : Vessel → Vessel) : (updVessel s v f).tu = s.tu := rfl
@[simp] theorem updVessel_sn (v : VesselIx) (f : Vessel → Vessel) : (updVessel s v f).sn = s.sn := rfl
@[simp] theorem updVessel_cs (v : VesselIx) (f : Vessel → Vessel) : (updVessel s v f).cs = s.cs := rfl
@[simp] theorem updVessel_freeCount (v : VesselIx) (f : Vessel → Vessel) : (updVessel s v f).freeCount = s.freeCount := rfl
@[simp] theorem updVessel_pending (v : VesselIx) (f : Vessel → Vessel) : (updVessel s v f).pending = s.pending := rfl

@[simp] theorem updSensor_clock (i : SensorIx) (f : Sensor → Sensor) : (updSensor s i f).clock = s.clock := rfl
@[simp] theorem updSensor_line (i : SensorIx) (f : Sensor → Sensor) : (updSensor s i f).line = s.line := rfl
@[simp] theorem updSensor_lp (i : SensorIx) (f : Sensor → Sensor) : (updSensor s i f).lp = s.lp := rfl
@[simp] theorem updSensor_cfg (i : SensorIx) (f : Sensor → Sensor) : (updSensor s i f).cfg = s.cfg := rfl
@[simp] theorem updSensor_records (i : SensorIx) (f : Sensor → Sensor) : (updSensor s i f).records = s.records := rfl
@[simp] theorem updSensor_zu (i : SensorIx) (f : Sensor → Sensor) : (updSensor s i f).zu = s.zu := rfl
@[simp] theorem updSensor_stations (i : SensorIx) (f : Sensor → Sensor) : (updSensor s i f).stations = s.stations := rfl
@[simp] theorem updSensor_progress (i : SensorIx) (f : Sensor → Sensor) : (updSensor s i f).progress = s.progress := rfl
@[simp] theorem updSensor_vu (i : SensorIx) (f : Sensor → Sensor) : (updSensor s i f).vu = s.vu := rfl
@[simp] theorem updSensor_tu (i : SensorIx) (f : Sensor → Sensor) : (updSensor s i f).tu = s.tu := rfl
@[simp] theorem updSensor_cs (i : SensorIx) (f : Sensor → Sensor) : (updSensor s i f).cs = s.cs := rfl
@[simp] theorem updSensor_freeCount (i : SensorIx) (f : Sensor → Sensor) : (updSensor s i f).freeCount = s.freeCount := rfl
@[simp] theorem updSensor_pending (i : SensorIx) (f : Sensor → Sensor) : (updSensor s i f).pending = s.pending := rfl

@[simp] theorem setStationChannel_clock (n : Node) (c : StationChannel) : (setStationChannel s n c).clock = s.clock := rfl
@[simp] theorem setStationChannel_line (n : Node) (c : StationChannel) : (setStationChannel s n c).line = s.line := rfl
@[simp] theorem setStationChannel_lp (n : Node) (c : StationChannel) : (setStationChannel s n c).lp = s.lp := rfl
@[simp] theorem setStationChannel_cfg (n : Node) (c : StationChannel) : (setStationChannel s n c).cfg = s.cfg := rfl
@[simp] theorem setStationChannel_records (n : Node) (c : StationChannel) : (setStationChannel s n c).records = s.records := rfl
@[simp] theorem setStationChannel_zu (n : Node) (c : StationChannel) : (setStationChannel s n c).zu = s.zu := rfl
@[simp] theorem setStationChannel_stations (n : Node) (c : StationChannel) : (setStationChannel s n c).stations = s.stations := rfl
@[simp] theorem setStationChannel_progress (n : Node) (c : StationChannel) : (setStationChannel s n c).progress = s.progress := rfl
@[simp] theorem setStationChannel_vu (n : Node) (c : StationChannel) : (setStationChannel s n c).vu = s.vu := rfl
@[simp] theorem setStationChannel_sn (n : Node) (c : StationChannel) : (setStationChannel s n c).sn = s.sn := rfl
@[simp] theorem setStationChannel_cs (n : Node) (c : StationChannel) : (setStationChannel s n c).cs = s.cs := rfl
@[simp] theorem setStationChannel_freeCount (n : Node) (c : StationChannel) : (setStationChannel s n c).freeCount = s.freeCount := rfl
@[simp] theorem setStationChannel_pending (n : Node) (c : StationChannel) : (setStationChannel s n c).pending = s.pending := rfl

@[simp] theorem setSettle_clock (v : VesselIx) (c : Channel) : (setSettle s v c).clock = s.clock := rfl
@[simp] theorem setSettle_line (v : VesselIx) (c : Channel) : (setSettle s v c).line = s.line := rfl
@[simp] theorem setSettle_lp (v : VesselIx) (c : Channel) : (setSettle s v c).lp = s.lp := rfl
@[simp] theorem setSettle_cfg (v : VesselIx) (c : Channel) : (setSettle s v c).cfg = s.cfg := rfl
@[simp] theorem setSettle_records (v : VesselIx) (c : Channel) : (setSettle s v c).records = s.records := rfl
@[simp] theorem setSettle_zu (v : VesselIx) (c : Channel) : (setSettle s v c).zu = s.zu := rfl
@[simp] theorem setSettle_stations (v : VesselIx) (c : Channel) : (setSettle s v c).stations = s.stations := rfl
@[simp] theorem setSettle_progress (v : VesselIx) (c : Channel) : (setSettle s v c).progress = s.progress := rfl
@[simp] theorem setSettle_vu (v : VesselIx) (c : Channel) : (setSettle s v c).vu = s.vu := rfl
@[simp] theorem setSettle_sn (v : VesselIx) (c : Channel) : (setSettle s v c).sn = s.sn := rfl
@[simp] theorem setSettle_cs (v : VesselIx) (c : Channel) : (setSettle s v c).cs = s.cs := rfl
@[simp] theorem setSettle_freeCount (v : VesselIx) (c : Channel) : (setSettle s v c).freeCount = s.freeCount := rfl
@[simp] theorem setSettle_pending (v : VesselIx) (c : Channel) : (setSettle s v c).pending = s.pending := rfl

@[simp] theorem setHeartbeat_clock (n : Node) (c : Channel) : (setHeartbeat s n c).clock = s.clock := rfl
@[simp] theorem setHeartbeat_line (n : Node) (c : Channel) : (setHeartbeat s n c).line = s.line := rfl
@[simp] theorem setHeartbeat_lp (n : Node) (c : Channel) : (setHeartbeat s n c).lp = s.lp := rfl
@[simp] theorem setHeartbeat_cfg (n : Node) (c : Channel) : (setHeartbeat s n c).cfg = s.cfg := rfl
@[simp] theorem setHeartbeat_records (n : Node) (c : Channel) : (setHeartbeat s n c).records = s.records := rfl
@[simp] theorem setHeartbeat_zu (n : Node) (c : Channel) : (setHeartbeat s n c).zu = s.zu := rfl
@[simp] theorem setHeartbeat_stations (n : Node) (c : Channel) : (setHeartbeat s n c).stations = s.stations := rfl
@[simp] theorem setHeartbeat_progress (n : Node) (c : Channel) : (setHeartbeat s n c).progress = s.progress := rfl
@[simp] theorem setHeartbeat_vu (n : Node) (c : Channel) : (setHeartbeat s n c).vu = s.vu := rfl
@[simp] theorem setHeartbeat_sn (n : Node) (c : Channel) : (setHeartbeat s n c).sn = s.sn := rfl
@[simp] theorem setHeartbeat_cs (n : Node) (c : Channel) : (setHeartbeat s n c).cs = s.cs := rfl
@[simp] theorem setHeartbeat_freeCount (n : Node) (c : Channel) : (setHeartbeat s n c).freeCount = s.freeCount := rfl
@[simp] theorem setHeartbeat_pending (n : Node) (c : Channel) : (setHeartbeat s n c).pending = s.pending := rfl

@[simp] theorem startHeartbeat_clock (n : Node) : (startHeartbeat s n).clock = s.clock := rfl
@[simp] theorem startHeartbeat_line (n : Node) : (startHeartbeat s n).line = s.line := rfl
@[simp] theorem startHeartbeat_lp (n : Node) : (startHeartbeat s n).lp = s.lp := rfl
@[simp] theorem startHeartbeat_cfg (n : Node) : (startHeartbeat s n).cfg = s.cfg := rfl
@[simp] theorem startHeartbeat_records (n : Node) : (startHeartbeat s n).records = s.records := rfl
@[simp] theorem startHeartbeat_zu (n : Node) : (startHeartbeat s n).zu = s.zu := rfl
@[simp] theorem startHeartbeat_stations (n : Node) : (startHeartbeat s n).stations = s.stations := rfl
@[simp] theorem startHeartbeat_progress (n : Node) : (startHeartbeat s n).progress = s.progress := rfl
@[simp] theorem startHeartbeat_vu (n : Node) : (startHeartbeat s n).vu = s.vu := rfl
@[simp] theorem startHeartbeat_sn (n : Node) : (startHeartbeat s n).sn = s.sn := rfl
@[simp] theorem startHeartbeat_cs (n : Node) : (startHeartbeat s n).cs = s.cs := rfl
@[simp] theorem startHeartbeat_freeCount (n : Node) : (startHeartbeat s n).freeCount = s.freeCount := rfl
@[simp] theorem startHeartbeat_pending (n : Node) : (startHeartbeat s n).pending = s.pending := rfl

@[simp] theorem setGate_clock (g : Gate) (e : GateEntry) : (setGate s g e).clock = s.clock := rfl
@[simp] theorem setGate_line (g : Gate) (e : GateEntry) : (setGate s g e).line = s.line := rfl
@[simp] theorem setGate_lp (g : Gate) (e : GateEntry) : (setGate s g e).lp = s.lp := rfl
@[simp] theorem setGate_cfg (g : Gate) (e : GateEntry) : (setGate s g e).cfg = s.cfg := rfl
@[simp] theorem setGate_records (g : Gate) (e : GateEntry) : (setGate s g e).records = s.records := rfl
@[simp] theorem setGate_stations (g : Gate) (e : GateEntry) : (setGate s g e).stations = s.stations := rfl
@[simp] theorem setGate_progress (g : Gate) (e : GateEntry) : (setGate s g e).progress = s.progress := rfl
@[simp] theorem setGate_vu (g : Gate) (e : GateEntry) : (setGate s g e).vu = s.vu := rfl
@[simp] theorem setGate_tu (g : Gate) (e : GateEntry) : (setGate s g e).tu = s.tu := rfl
@[simp] theorem setGate_sn (g : Gate) (e : GateEntry) : (setGate s g e).sn = s.sn := rfl
@[simp] theorem setGate_cs (g : Gate) (e : GateEntry) : (setGate s g e).cs = s.cs := rfl
@[simp] theorem setGate_freeCount (g : Gate) (e : GateEntry) : (setGate s g e).freeCount = s.freeCount := rfl
@[simp] theorem setGate_pending (g : Gate) (e : GateEntry) : (setGate s g e).pending = s.pending := rfl

@[simp] theorem setPassage_clock (g : Gate) (c : Channel) : (setPassage s g c).clock = s.clock := rfl
@[simp] theorem setPassage_line (g : Gate) (c : Channel) : (setPassage s g c).line = s.line := rfl
@[simp] theorem setPassage_lp (g : Gate) (c : Channel) : (setPassage s g c).lp = s.lp := rfl
@[simp] theorem setPassage_cfg (g : Gate) (c : Channel) : (setPassage s g c).cfg = s.cfg := rfl
@[simp] theorem setPassage_records (g : Gate) (c : Channel) : (setPassage s g c).records = s.records := rfl
@[simp] theorem setPassage_zu (g : Gate) (c : Channel) : (setPassage s g c).zu = s.zu := rfl
@[simp] theorem setPassage_stations (g : Gate) (c : Channel) : (setPassage s g c).stations = s.stations := rfl
@[simp] theorem setPassage_progress (g : Gate) (c : Channel) : (setPassage s g c).progress = s.progress := rfl
@[simp] theorem setPassage_vu (g : Gate) (c : Channel) : (setPassage s g c).vu = s.vu := rfl
@[simp] theorem setPassage_sn (g : Gate) (c : Channel) : (setPassage s g c).sn = s.sn := rfl
@[simp] theorem setPassage_cs (g : Gate) (c : Channel) : (setPassage s g c).cs = s.cs := rfl
@[simp] theorem setPassage_freeCount (g : Gate) (c : Channel) : (setPassage s g c).freeCount = s.freeCount := rfl
@[simp] theorem setPassage_pending (g : Gate) (c : Channel) : (setPassage s g c).pending = s.pending := rfl

@[simp] theorem withdrawSample_clock (r : Requester) : (withdrawSample s r).clock = s.clock := rfl
@[simp] theorem withdrawSample_line (r : Requester) : (withdrawSample s r).line = s.line := rfl
@[simp] theorem withdrawSample_lp (r : Requester) : (withdrawSample s r).lp = s.lp := rfl
@[simp] theorem withdrawSample_cfg (r : Requester) : (withdrawSample s r).cfg = s.cfg := rfl
@[simp] theorem withdrawSample_records (r : Requester) : (withdrawSample s r).records = s.records := rfl
@[simp] theorem withdrawSample_zu (r : Requester) : (withdrawSample s r).zu = s.zu := rfl
@[simp] theorem withdrawSample_stations (r : Requester) : (withdrawSample s r).stations = s.stations := rfl
@[simp] theorem withdrawSample_progress (r : Requester) : (withdrawSample s r).progress = s.progress := rfl
@[simp] theorem withdrawSample_vu (r : Requester) : (withdrawSample s r).vu = s.vu := rfl
@[simp] theorem withdrawSample_tu (r : Requester) : (withdrawSample s r).tu = s.tu := rfl
@[simp] theorem withdrawSample_cs (r : Requester) : (withdrawSample s r).cs = s.cs := rfl
@[simp] theorem withdrawSample_freeCount (r : Requester) : (withdrawSample s r).freeCount = s.freeCount := rfl
@[simp] theorem withdrawSample_pending (r : Requester) : (withdrawSample s r).pending = s.pending := rfl

@[simp] theorem requestSample_clock (r : Requester) (i : SensorIx) : (requestSample s r i).clock = s.clock := by unfold requestSample; split <;> rfl
@[simp] theorem requestSample_line (r : Requester) (i : SensorIx) : (requestSample s r i).line = s.line := by unfold requestSample; split <;> rfl
@[simp] theorem requestSample_lp (r : Requester) (i : SensorIx) : (requestSample s r i).lp = s.lp := by unfold requestSample; split <;> rfl
@[simp] theorem requestSample_cfg (r : Requester) (i : SensorIx) : (requestSample s r i).cfg = s.cfg := by unfold requestSample; split <;> rfl
@[simp] theorem requestSample_records (r : Requester) (i : SensorIx) : (requestSample s r i).records = s.records := by unfold requestSample; split <;> rfl
@[simp] theorem requestSample_zu (r : Requester) (i : SensorIx) : (requestSample s r i).zu = s.zu := by unfold requestSample; split <;> rfl
@[simp] theorem requestSample_stations (r : Requester) (i : SensorIx) : (requestSample s r i).stations = s.stations := by unfold requestSample; split <;> rfl
@[simp] theorem requestSample_progress (r : Requester) (i : SensorIx) : (requestSample s r i).progress = s.progress := by unfold requestSample; split <;> rfl
@[simp] theorem requestSample_vu (r : Requester) (i : SensorIx) : (requestSample s r i).vu = s.vu := by unfold requestSample; split <;> rfl
@[simp] theorem requestSample_tu (r : Requester) (i : SensorIx) : (requestSample s r i).tu = s.tu := by unfold requestSample; split <;> rfl
@[simp] theorem requestSample_cs (r : Requester) (i : SensorIx) : (requestSample s r i).cs = s.cs := by unfold requestSample; split <;> rfl
@[simp] theorem requestSample_freeCount (r : Requester) (i : SensorIx) : (requestSample s r i).freeCount = s.freeCount := by unfold requestSample; split <;> rfl
@[simp] theorem requestSample_pending (r : Requester) (i : SensorIx) : (requestSample s r i).pending = s.pending := by unfold requestSample; split <;> rfl

@[simp] theorem setInletQueue_clock (c : Stream) (q : List InletEntry) : (setInletQueue s c q).clock = s.clock := by cases c <;> rfl
@[simp] theorem setInletQueue_line (c : Stream) (q : List InletEntry) : (setInletQueue s c q).line = s.line := by cases c <;> rfl
@[simp] theorem setInletQueue_lp (c : Stream) (q : List InletEntry) : (setInletQueue s c q).lp = s.lp := by cases c <;> rfl
@[simp] theorem setInletQueue_cfg (c : Stream) (q : List InletEntry) : (setInletQueue s c q).cfg = s.cfg := by cases c <;> rfl
@[simp] theorem setInletQueue_records (c : Stream) (q : List InletEntry) : (setInletQueue s c q).records = s.records := by cases c <;> rfl
@[simp] theorem setInletQueue_zu (c : Stream) (q : List InletEntry) : (setInletQueue s c q).zu = s.zu := by cases c <;> rfl
@[simp] theorem setInletQueue_stations (c : Stream) (q : List InletEntry) : (setInletQueue s c q).stations = s.stations := by cases c <;> rfl
@[simp] theorem setInletQueue_progress (c : Stream) (q : List InletEntry) : (setInletQueue s c q).progress = s.progress := by cases c <;> rfl
@[simp] theorem setInletQueue_tu (c : Stream) (q : List InletEntry) : (setInletQueue s c q).tu = s.tu := by cases c <;> rfl
@[simp] theorem setInletQueue_sn (c : Stream) (q : List InletEntry) : (setInletQueue s c q).sn = s.sn := by cases c <;> rfl
@[simp] theorem setInletQueue_cs (c : Stream) (q : List InletEntry) : (setInletQueue s c q).cs = s.cs := by cases c <;> rfl
@[simp] theorem setInletQueue_freeCount (c : Stream) (q : List InletEntry) : (setInletQueue s c q).freeCount = s.freeCount := by cases c <;> rfl
@[simp] theorem setInletQueue_pending (c : Stream) (q : List InletEntry) : (setInletQueue s c q).pending = s.pending := by cases c <;> rfl

@[simp] theorem leaveQueues_clock (t : Tag) : (leaveQueues s t).clock = s.clock := rfl
@[simp] theorem leaveQueues_line (t : Tag) : (leaveQueues s t).line = s.line := rfl
@[simp] theorem leaveQueues_lp (t : Tag) : (leaveQueues s t).lp = s.lp := rfl
@[simp] theorem leaveQueues_cfg (t : Tag) : (leaveQueues s t).cfg = s.cfg := rfl
@[simp] theorem leaveQueues_records (t : Tag) : (leaveQueues s t).records = s.records := rfl
@[simp] theorem leaveQueues_zu (t : Tag) : (leaveQueues s t).zu = s.zu := rfl
@[simp] theorem leaveQueues_stations (t : Tag) : (leaveQueues s t).stations = s.stations := rfl
@[simp] theorem leaveQueues_progress (t : Tag) : (leaveQueues s t).progress = s.progress := rfl
@[simp] theorem leaveQueues_tu (t : Tag) : (leaveQueues s t).tu = s.tu := rfl
@[simp] theorem leaveQueues_sn (t : Tag) : (leaveQueues s t).sn = s.sn := rfl
@[simp] theorem leaveQueues_cs (t : Tag) : (leaveQueues s t).cs = s.cs := rfl
@[simp] theorem leaveQueues_freeCount (t : Tag) : (leaveQueues s t).freeCount = s.freeCount := rfl
@[simp] theorem leaveQueues_pending (t : Tag) : (leaveQueues s t).pending = s.pending := rfl

@[simp] theorem removeHold_clock (t : Tag) (h : HoldReason) : (removeHold s t h).clock = s.clock := rfl
@[simp] theorem removeHold_line (t : Tag) (h : HoldReason) : (removeHold s t h).line = s.line := rfl
@[simp] theorem removeHold_lp (t : Tag) (h : HoldReason) : (removeHold s t h).lp = s.lp := rfl
@[simp] theorem removeHold_cfg (t : Tag) (h : HoldReason) : (removeHold s t h).cfg = s.cfg := rfl
@[simp] theorem removeHold_zu (t : Tag) (h : HoldReason) : (removeHold s t h).zu = s.zu := rfl
@[simp] theorem removeHold_stations (t : Tag) (h : HoldReason) : (removeHold s t h).stations = s.stations := rfl
@[simp] theorem removeHold_progress (t : Tag) (h : HoldReason) : (removeHold s t h).progress = s.progress := rfl
@[simp] theorem removeHold_vu (t : Tag) (h : HoldReason) : (removeHold s t h).vu = s.vu := rfl
@[simp] theorem removeHold_tu (t : Tag) (h : HoldReason) : (removeHold s t h).tu = s.tu := rfl
@[simp] theorem removeHold_sn (t : Tag) (h : HoldReason) : (removeHold s t h).sn = s.sn := rfl
@[simp] theorem removeHold_cs (t : Tag) (h : HoldReason) : (removeHold s t h).cs = s.cs := rfl
@[simp] theorem removeHold_freeCount (t : Tag) (h : HoldReason) : (removeHold s t h).freeCount = s.freeCount := rfl
@[simp] theorem removeHold_pending (t : Tag) (h : HoldReason) : (removeHold s t h).pending = s.pending := rfl

@[simp] theorem putHold_clock (t : Tag) (h : HoldReason) (k : Nat) : (putHold s t h k).clock = s.clock := rfl
@[simp] theorem putHold_line (t : Tag) (h : HoldReason) (k : Nat) : (putHold s t h k).line = s.line := rfl
@[simp] theorem putHold_lp (t : Tag) (h : HoldReason) (k : Nat) : (putHold s t h k).lp = s.lp := rfl
@[simp] theorem putHold_cfg (t : Tag) (h : HoldReason) (k : Nat) : (putHold s t h k).cfg = s.cfg := rfl
@[simp] theorem putHold_zu (t : Tag) (h : HoldReason) (k : Nat) : (putHold s t h k).zu = s.zu := rfl
@[simp] theorem putHold_stations (t : Tag) (h : HoldReason) (k : Nat) : (putHold s t h k).stations = s.stations := rfl
@[simp] theorem putHold_progress (t : Tag) (h : HoldReason) (k : Nat) : (putHold s t h k).progress = s.progress := rfl
@[simp] theorem putHold_vu (t : Tag) (h : HoldReason) (k : Nat) : (putHold s t h k).vu = s.vu := rfl
@[simp] theorem putHold_tu (t : Tag) (h : HoldReason) (k : Nat) : (putHold s t h k).tu = s.tu := rfl
@[simp] theorem putHold_sn (t : Tag) (h : HoldReason) (k : Nat) : (putHold s t h k).sn = s.sn := rfl
@[simp] theorem putHold_cs (t : Tag) (h : HoldReason) (k : Nat) : (putHold s t h k).cs = s.cs := rfl
@[simp] theorem putHold_freeCount (t : Tag) (h : HoldReason) (k : Nat) : (putHold s t h k).freeCount = s.freeCount := rfl
@[simp] theorem putHold_pending (t : Tag) (h : HoldReason) (k : Nat) : (putHold s t h k).pending = s.pending := rfl

@[simp] theorem judgeDrive_clock : (judgeDrive s).clock = s.clock := rfl
@[simp] theorem judgeDrive_line : (judgeDrive s).line = s.line := rfl
@[simp] theorem judgeDrive_lp : (judgeDrive s).lp = s.lp := rfl
@[simp] theorem judgeDrive_cfg : (judgeDrive s).cfg = s.cfg := rfl
@[simp] theorem judgeDrive_records : (judgeDrive s).records = s.records := rfl
@[simp] theorem judgeDrive_zu : (judgeDrive s).zu = s.zu := rfl
@[simp] theorem judgeDrive_stations : (judgeDrive s).stations = s.stations := rfl
@[simp] theorem judgeDrive_progress : (judgeDrive s).progress = s.progress := rfl
@[simp] theorem judgeDrive_vu : (judgeDrive s).vu = s.vu := rfl
@[simp] theorem judgeDrive_tu : (judgeDrive s).tu = s.tu := rfl
@[simp] theorem judgeDrive_sn : (judgeDrive s).sn = s.sn := rfl
@[simp] theorem judgeDrive_freeCount : (judgeDrive s).freeCount = s.freeCount := rfl
@[simp] theorem judgeDrive_pending : (judgeDrive s).pending = s.pending := rfl

@[simp] theorem drivePlain_clock (p : PatternRow) : (drivePlain s p).clock = s.clock := rfl
@[simp] theorem drivePlain_line (p : PatternRow) : (drivePlain s p).line = s.line := rfl
@[simp] theorem drivePlain_lp (p : PatternRow) : (drivePlain s p).lp = s.lp := rfl
@[simp] theorem drivePlain_cfg (p : PatternRow) : (drivePlain s p).cfg = s.cfg := rfl
@[simp] theorem drivePlain_records (p : PatternRow) : (drivePlain s p).records = s.records := rfl
@[simp] theorem drivePlain_zu (p : PatternRow) : (drivePlain s p).zu = s.zu := rfl
@[simp] theorem drivePlain_stations (p : PatternRow) : (drivePlain s p).stations = s.stations := rfl
@[simp] theorem drivePlain_progress (p : PatternRow) : (drivePlain s p).progress = s.progress := rfl
@[simp] theorem drivePlain_vu (p : PatternRow) : (drivePlain s p).vu = s.vu := rfl
@[simp] theorem drivePlain_tu (p : PatternRow) : (drivePlain s p).tu = s.tu := rfl
@[simp] theorem drivePlain_sn (p : PatternRow) : (drivePlain s p).sn = s.sn := rfl
@[simp] theorem drivePlain_freeCount (p : PatternRow) : (drivePlain s p).freeCount = s.freeCount := rfl
@[simp] theorem drivePlain_pending (p : PatternRow) : (drivePlain s p).pending = s.pending := rfl

@[simp] theorem startPhase_clock (k : Nat) : (startPhase s k).clock = s.clock := rfl
@[simp] theorem startPhase_line (k : Nat) : (startPhase s k).line = s.line := rfl
@[simp] theorem startPhase_lp (k : Nat) : (startPhase s k).lp = s.lp := rfl
@[simp] theorem startPhase_cfg (k : Nat) : (startPhase s k).cfg = s.cfg := rfl
@[simp] theorem startPhase_records (k : Nat) : (startPhase s k).records = s.records := rfl
@[simp] theorem startPhase_zu (k : Nat) : (startPhase s k).zu = s.zu := rfl
@[simp] theorem startPhase_stations (k : Nat) : (startPhase s k).stations = s.stations := rfl
@[simp] theorem startPhase_progress (k : Nat) : (startPhase s k).progress = s.progress := rfl
@[simp] theorem startPhase_vu (k : Nat) : (startPhase s k).vu = s.vu := rfl
@[simp] theorem startPhase_sn (k : Nat) : (startPhase s k).sn = s.sn := rfl
@[simp] theorem startPhase_cs (k : Nat) : (startPhase s k).cs = s.cs := rfl
@[simp] theorem startPhase_freeCount (k : Nat) : (startPhase s k).freeCount = s.freeCount := rfl
@[simp] theorem startPhase_pending (k : Nat) : (startPhase s k).pending = s.pending := rfl

@[simp] theorem stopChamberChannels_clock : (stopChamberChannels s).clock = s.clock := rfl
@[simp] theorem stopChamberChannels_line : (stopChamberChannels s).line = s.line := rfl
@[simp] theorem stopChamberChannels_lp : (stopChamberChannels s).lp = s.lp := rfl
@[simp] theorem stopChamberChannels_cfg : (stopChamberChannels s).cfg = s.cfg := rfl
@[simp] theorem stopChamberChannels_records : (stopChamberChannels s).records = s.records := rfl
@[simp] theorem stopChamberChannels_zu : (stopChamberChannels s).zu = s.zu := rfl
@[simp] theorem stopChamberChannels_stations : (stopChamberChannels s).stations = s.stations := rfl
@[simp] theorem stopChamberChannels_progress : (stopChamberChannels s).progress = s.progress := rfl
@[simp] theorem stopChamberChannels_vu : (stopChamberChannels s).vu = s.vu := rfl
@[simp] theorem stopChamberChannels_sn : (stopChamberChannels s).sn = s.sn := rfl
@[simp] theorem stopChamberChannels_cs : (stopChamberChannels s).cs = s.cs := rfl
@[simp] theorem stopChamberChannels_freeCount : (stopChamberChannels s).freeCount = s.freeCount := rfl
@[simp] theorem stopChamberChannels_pending : (stopChamberChannels s).pending = s.pending := rfl

@[simp] theorem freezeChamberChannels_clock : (freezeChamberChannels s).clock = s.clock := rfl
@[simp] theorem freezeChamberChannels_line : (freezeChamberChannels s).line = s.line := rfl
@[simp] theorem freezeChamberChannels_lp : (freezeChamberChannels s).lp = s.lp := rfl
@[simp] theorem freezeChamberChannels_cfg : (freezeChamberChannels s).cfg = s.cfg := rfl
@[simp] theorem freezeChamberChannels_records : (freezeChamberChannels s).records = s.records := rfl
@[simp] theorem freezeChamberChannels_zu : (freezeChamberChannels s).zu = s.zu := rfl
@[simp] theorem freezeChamberChannels_stations : (freezeChamberChannels s).stations = s.stations := rfl
@[simp] theorem freezeChamberChannels_progress : (freezeChamberChannels s).progress = s.progress := rfl
@[simp] theorem freezeChamberChannels_vu : (freezeChamberChannels s).vu = s.vu := rfl
@[simp] theorem freezeChamberChannels_sn : (freezeChamberChannels s).sn = s.sn := rfl
@[simp] theorem freezeChamberChannels_cs : (freezeChamberChannels s).cs = s.cs := rfl
@[simp] theorem freezeChamberChannels_freeCount : (freezeChamberChannels s).freeCount = s.freeCount := rfl
@[simp] theorem freezeChamberChannels_pending : (freezeChamberChannels s).pending = s.pending := rfl

@[simp] theorem putHead_clock (l : Lane) (t : Tag) : (putHead s l t).clock = s.clock := rfl
@[simp] theorem putHead_line (l : Lane) (t : Tag) : (putHead s l t).line = s.line := rfl
@[simp] theorem putHead_lp (l : Lane) (t : Tag) : (putHead s l t).lp = s.lp := rfl
@[simp] theorem putHead_cfg (l : Lane) (t : Tag) : (putHead s l t).cfg = s.cfg := rfl
@[simp] theorem putHead_records (l : Lane) (t : Tag) : (putHead s l t).records = s.records := rfl
@[simp] theorem putHead_stations (l : Lane) (t : Tag) : (putHead s l t).stations = s.stations := rfl
@[simp] theorem putHead_progress (l : Lane) (t : Tag) : (putHead s l t).progress = s.progress := rfl
@[simp] theorem putHead_vu (l : Lane) (t : Tag) : (putHead s l t).vu = s.vu := rfl
@[simp] theorem putHead_tu (l : Lane) (t : Tag) : (putHead s l t).tu = s.tu := rfl
@[simp] theorem putHead_sn (l : Lane) (t : Tag) : (putHead s l t).sn = s.sn := rfl
@[simp] theorem putHead_cs (l : Lane) (t : Tag) : (putHead s l t).cs = s.cs := rfl
@[simp] theorem putHead_freeCount (l : Lane) (t : Tag) : (putHead s l t).freeCount = s.freeCount := rfl
@[simp] theorem putHead_pending (l : Lane) (t : Tag) : (putHead s l t).pending = s.pending := rfl

@[simp] theorem closePoll_clock (xs : List LineSignal) : (closePoll s xs).clock = s.clock := rfl
@[simp] theorem closePoll_line (xs : List LineSignal) : (closePoll s xs).line = s.line := rfl
@[simp] theorem closePoll_lp (xs : List LineSignal) : (closePoll s xs).lp = s.lp := rfl
@[simp] theorem closePoll_cfg (xs : List LineSignal) : (closePoll s xs).cfg = s.cfg := rfl
@[simp] theorem closePoll_records (xs : List LineSignal) : (closePoll s xs).records = s.records := rfl
@[simp] theorem closePoll_zu (xs : List LineSignal) : (closePoll s xs).zu = s.zu := rfl
@[simp] theorem closePoll_stations (xs : List LineSignal) : (closePoll s xs).stations = s.stations := rfl
@[simp] theorem closePoll_progress (xs : List LineSignal) : (closePoll s xs).progress = s.progress := rfl
@[simp] theorem closePoll_vu (xs : List LineSignal) : (closePoll s xs).vu = s.vu := rfl
@[simp] theorem closePoll_tu (xs : List LineSignal) : (closePoll s xs).tu = s.tu := rfl
@[simp] theorem closePoll_cs (xs : List LineSignal) : (closePoll s xs).cs = s.cs := rfl
@[simp] theorem closePoll_freeCount (xs : List LineSignal) : (closePoll s xs).freeCount = s.freeCount := rfl
@[simp] theorem closePoll_pending (xs : List LineSignal) : (closePoll s xs).pending = s.pending := rfl

@[simp] theorem popped_clock (rest : List Frame) : (popped s rest).clock = s.clock := rfl
@[simp] theorem popped_line (rest : List Frame) : (popped s rest).line = s.line := rfl
@[simp] theorem popped_cfg (rest : List Frame) : (popped s rest).cfg = s.cfg := rfl
@[simp] theorem popped_records (rest : List Frame) : (popped s rest).records = s.records := rfl
@[simp] theorem popped_zu (rest : List Frame) : (popped s rest).zu = s.zu := rfl
@[simp] theorem popped_stations (rest : List Frame) : (popped s rest).stations = s.stations := rfl
@[simp] theorem popped_progress (rest : List Frame) : (popped s rest).progress = s.progress := rfl
@[simp] theorem popped_vu (rest : List Frame) : (popped s rest).vu = s.vu := rfl
@[simp] theorem popped_tu (rest : List Frame) : (popped s rest).tu = s.tu := rfl
@[simp] theorem popped_sn (rest : List Frame) : (popped s rest).sn = s.sn := rfl
@[simp] theorem popped_cs (rest : List Frame) : (popped s rest).cs = s.cs := rfl
@[simp] theorem popped_freeCount (rest : List Frame) : (popped s rest).freeCount = s.freeCount := rfl
@[simp] theorem popped_pending (rest : List Frame) : (popped s rest).pending = s.pending := rfl

end Sys2Proof.Machine
end

