-- ==== Sys2Proof/Laws/Channels.lean ====
section
/-!
SUPPORT. What a channel can do: advance, start, stop, freeze and resume (R73 to R77); the values of the tables over lanes and
gates; clamps.
-/

namespace Sys2Proof.Machine

/-- Advancing a channel leaves it as it is, or sets it IDLE with the reached deadline pending. -/
theorem chAdvance_cases (now : Clock) (c : Channel) :
    chAdvance now c = c ∨ ∃ d : Clock, c.run = .running d ∧ reached now d = true ∧ chAdvance now c = ⟨.idle, some d⟩ := by
  unfold chAdvance
  split
  · rename_i d hd
    split
    · rename_i h
      exact .inr ⟨d, hd, h, rfl⟩
    · exact .inl rfl
  · exact .inl rfl

/-- A start leaves the channel RUNNING with nothing pending, whatever its deadline (R74). -/
@[simp] theorem chStart_eq (d : Clock) : chStart d = ⟨.running d, none⟩ := rfl

/-- What an owner can take of a channel: a pending expiry, or that of a RUNNING channel whose deadline is reached (R73, R74). -/
theorem chDue_cases {now : Clock} {c c' : Channel} {d : Clock} (h : chDue now c = some (d, c')) :
    (c.expiry = some d ∧ c' = { c with expiry := none })
      ∨ (c.expiry = none ∧ c.run = .running d ∧ reached now d = true ∧ c' = ⟨.idle, none⟩) := by
  obtain ⟨r, e⟩ := c
  cases e with
  | some x =>
    simp only [chDue, chTaken, Option.some.injEq, Prod.mk.injEq] at h
    exact .inl ⟨by rw [h.1], h.2.symm⟩
  | none =>
    cases r with
    | running x =>
      simp only [chDue, chStopped] at h
      split at h
      · simp only [Option.some.injEq, Prod.mk.injEq] at h
        obtain ⟨rfl, rfl⟩ := h
        exact .inr ⟨rfl, rfl, ‹_›, rfl⟩
      · cases h
    | idle => cases h
    | frozen x => cases h

/-- A pending expiry is taken with its deadline. -/
@[simp] theorem chDue_pending (now d : Clock) (r : ChannelRun) : chDue now ⟨r, some d⟩ = some (d, ⟨r, none⟩) := rfl

/-- A start whose deadline is reached can be taken at once. -/
theorem chDue_start {now d : Clock} (h : reached now d = true) : chDue now (chStart d) = some (d, ⟨.idle, none⟩) := by
  simp [chDue, chStopped, h]

/-- A time left is none exactly where the deadline is reached. -/
theorem timeLeft_reached {now d : Clock} (h : reached now d = true) : timeLeft now d = 0 := by simp [timeLeft, h]

/-- A freeze and a resume never withdraw what is pending. -/
theorem chFreeze_expiry (now : Clock) (c : Channel) : (chFreeze now c).expiry = c.expiry := by
  unfold chFreeze; split <;> rfl

/-- A freeze and a resume never withdraw what is pending. -/
theorem chResume_expiry (now : Clock) (c : Channel) : (chResume now c).expiry = c.expiry := by
  unfold chResume; split <;> rfl

/-- Reading a lane that was set. -/
@[simp] theorem LaneTab.get_set_same {α : Type} (t : LaneTab α) (l : Lane) (x : α) : (t.set l x).get l = x := by
  cases l <;> rfl

/-- Reading another lane than the one set. -/
theorem LaneTab.get_set_other {α : Type} (t : LaneTab α) {l m : Lane} (h : m ≠ l) (x : α) :
    (t.set l x).get m = t.get m := by
  cases l <;> cases m <;> first | rfl | exact absurd rfl h

/-- Reading a gate that was set. -/
@[simp] theorem GateTab.get_set_same {α : Type} (t : GateTab α) (g : Gate) (x : α) : (t.set g x).get g = x := by
  cases g with
  | lane l => simp [GateTab.set, GateTab.get]
  | feed => rfl

/-- Reading another gate than the one set. -/
theorem GateTab.get_set_other {α : Type} (t : GateTab α) {g h : Gate} (hne : h ≠ g) (x : α) :
    (t.set g x).get h = t.get h := by
  cases g with
  | lane l =>
    cases h with
    | lane m => exact LaneTab.get_set_other _ (fun e => hne (by rw [e])) x
    | feed => rfl
  | feed =>
    cases h with
    | lane m => rfl
    | feed => exact absurd rfl hne

/-- A clamped number lies in its range. -/
theorem clampNat_range {lo hi : Nat} (h : lo ≤ hi) (v : Int) : lo ≤ clampNat lo hi v ∧ clampNat lo hi v ≤ hi := by
  unfold clampNat clampInt
  split
  · omega
  · split <;> omega

/-- A number in the range is kept by a clamp. -/
theorem clampNat_of_range {lo hi v : Nat} (h1 : lo ≤ v) (h2 : v ≤ hi) : clampNat lo hi v = v := by
  unfold clampNat clampInt
  split
  · omega
  · split <;> omega

end Sys2Proof.Machine
end

