-- ==== Sys2Proof/Laws/Moves.lean ====
section
/-!
SUPPORT. What the shared movements can do: a routing attempt (R29 to R31), an admission (R45), a selection attempt (R161), a grant
attempt (R111, R112).
-/

namespace Sys2Proof.Machine

variable (s : State)

/-- A routing attempt changes nothing, or releases the gate of the chosen lane for the INTAKE head. -/
theorem routingAttempt_cases :
    routingAttempt s = s
      ∨ ∃ r l, routable s = some r ∧ chosenLane s r.cls = some l ∧ routingAttempt s = releaseGate s (.lane l) r.tag := by
  unfold routingAttempt
  split
  · exact .inl rfl
  · rename_i r hr
    split
    · rename_i l hl
      exact .inr ⟨r, l, hr, hl, rfl⟩
    · exact .inl rfl

/-- A routing attempt has no effect unless the line is RUN. -/
theorem routingAttempt_not_run (h : s.line.state ≠ .run) : routingAttempt s = s := by
  simp [routingAttempt, routable, h]

/-- A chosen lane is a candidate (R30). -/
theorem chosenLane_candidate {c : Class} {l : Lane} (h : chosenLane s c = some l) : laneCandidate s c l = true := by
  have key : ∀ (ls : List Lane) (x : Lane), x = ls.foldl (fewerRecords s) x ∨ ls.foldl (fewerRecords s) x ∈ ls := by
    intro ls
    induction ls with
    | nil => intro x; exact .inl rfl
    | cons y ls ih =>
      intro x
      simp only [List.foldl_cons]
      have hxy : fewerRecords s x y = x ∨ fewerRecords s x y = y := by
        unfold fewerRecords; split <;> simp
      rcases ih (fewerRecords s x y) with e | e
      · rcases hxy with hx | hy
        · rw [hx] at e ⊢; exact .inl e
        · rw [hy] at e ⊢; rw [← e]; simp
      · exact .inr (List.mem_cons_of_mem _ e)
  unfold chosenLane at h
  split at h
  · cases h
  · rename_i x ls hx
    have hall : ∀ y ∈ x :: ls, laneCandidate s c y = true := by
      intro y hy
      rw [← hx] at hy
      exact (List.mem_filter.mp hy).2
    cases h
    rcases key ls x with e | e
    · rw [← e]; exact hall x (by simp)
    · exact hall _ (List.mem_cons_of_mem _ e)

/-- ZU takes an admission only for a candidate of BUFFER, in RUN, with FEED_GATE IDLE, a free place and no overdue passage event
waiting; else it changes nothing (R45, R47). -/
theorem admit_cases (t : Tag) :
    admitRecord s t = s ∨ (s.line.state = .run ∧ s.zu.gates.feed.state = .idle ∧ isCandidate s t = true
      ∧ overdueWaits s = false ∧ admitRecord s t = releaseGate s .feed t) := by
  unfold admitRecord
  split
  · rename_i h
    exact .inr ⟨h.1, h.2.1, h.2.2.2.2.1, h.2.2.2.2.2, rfl⟩
  · exact .inl rfl

/-- A selection attempt outside LOADING changes nothing. -/
theorem selectionAttempt_not_loading (h : s.cs.phase ≠ .loading) : selectionAttempt s = s := by
  simp [selectionAttempt, h]

/-- A grant attempt has no effect unless the line is RUN (R111). -/
theorem grantAttempt_not_run (c : Stream) (h : s.line.state ≠ .run) : grantAttempt s c = s := by
  simp [grantAttempt, h]

/-- One grant changes the vessel unit and the sample requests alone. -/
theorem grant_frame (c : Stream) (v : VesselIx) (e : InletEntry) :
    ∃ (u : VesselUnit) (p : SensorPoller), grant s c v e = { s with vu := u, sn := p } := by
  cases c <;> simp only [grant, requestSample] <;> split <;> exact ⟨_, _, rfl⟩

/-- A grant attempt changes the vessel unit and the sample requests alone. -/
theorem grantAttempt_frame (c : Stream) :
    ∃ (u : VesselUnit) (p : SensorPoller), grantAttempt s c = { s with vu := u, sn := p } := by
  have rounds : ∀ (k : Nat) (s : State),
      ∃ (u : VesselUnit) (p : SensorPoller), grantRounds k s c = { s with vu := u, sn := p } := by
    intro k
    induction k with
    | zero => intro s; exact ⟨s.vu, s.sn, rfl⟩
    | succ k ih =>
      intro s
      unfold grantRounds
      split
      · rename_i v e _ _
        obtain ⟨u, p, h⟩ := grant_frame s c v e
        obtain ⟨u', p', h'⟩ := ih (grant s c v e)
        exact ⟨u', p', by rw [h', h]⟩
      · exact ⟨s.vu, s.sn, rfl⟩
  unfold grantAttempt
  split
  · exact rounds 4 s
  · exact ⟨s.vu, s.sn, rfl⟩

end Sys2Proof.Machine
end

