-- ==== Sys2Proof/Laws/Records.lean ====
section
/-!
SUPPORT. What a lookup finds and what an update of a record does to the table (R2, R12), and what raising a hold can do (R178).
-/

namespace Sys2Proof.Machine

variable {s : State} {t : Tag} {r : Record}

/-- A record that a lookup finds stands in the table, under that tag, which is not a reserved one. -/
theorem lookup_some (h : lookup s t = some r) : r ∈ s.records ∧ r.tag = t ∧ reservedTag t = false := by
  unfold lookup at h
  split at h
  · cases h
  · rename_i hres
    have hp := List.find?_some h
    exact ⟨List.mem_of_find?_eq_some h, by simpa using hp, by simpa using hres⟩

/-- Where a lookup of a tag that is not reserved finds nothing, no record of the table carries the tag. -/
theorem lookup_none (h : lookup s t = none) (hres : reservedTag t = false) : ∀ r ∈ s.records, r.tag ≠ t := by
  intro r hr
  simp [lookup, hres, List.find?_eq_none] at h
  exact h r hr

/-- An update that keeps tags keeps the tags of the table. -/
theorem updRecord_tags (s : State) (t : Tag) (f : Record → Record) (hf : ∀ r, (f r).tag = r.tag) :
    (updRecord s t f).records.map (·.tag) = s.records.map (·.tag) := by
  simp only [updRecord, List.map_map]
  apply List.map_congr_left
  intro r _
  show (if r.tag == t then f r else r).tag = r.tag
  split
  · exact hf r
  · rfl

/-- Every record after an update is an old one, or an old one of the tag with the update applied. -/
theorem mem_updRecord {f : Record → Record} (h : r ∈ (updRecord s t f).records) :
    ∃ x ∈ s.records, (x.tag = t ∧ r = f x) ∨ (x.tag ≠ t ∧ r = x) := by
  simp only [updRecord, List.mem_map] at h
  obtain ⟨x, hx, hr⟩ := h
  by_cases e : x.tag = t
  · exact ⟨x, hx, .inl ⟨e, by simp [e] at hr; exact hr.symm⟩⟩
  · exact ⟨x, hx, .inr ⟨e, by simp [e] at hr; exact hr.symm⟩⟩

/-- A lookup after an update that keeps tags finds the updated record. -/
theorem lookup_updRecord_same (s : State) (t : Tag) (f : Record → Record) (hf : ∀ r, (f r).tag = r.tag) :
    lookup (updRecord s t f) t = (lookup s t).map f := by
  have key : ∀ l : List Record,
      (l.map fun r => if r.tag == t then f r else r).find? (·.tag == t) = (l.find? (·.tag == t)).map f := by
    intro l
    induction l with
    | nil => rfl
    | cons x l ih =>
      by_cases e : x.tag = t
      · simp [e, hf]
      · have ex : (x.tag == t) = false := by simp [e]
        rw [List.map_cons, ex, if_neg Bool.false_ne_true, List.find?_cons_of_neg (by simp [e]),
          List.find?_cons_of_neg (by simp [e])]
        exact ih
  by_cases hres : reservedTag t = true
  · simp [lookup, hres]
  · simp only [lookup, hres]
    exact key s.records

/-- A hold is new exactly when the tag finds a record that does not carry the reason. -/
theorem isNewHold_iff {h : HoldReason} : isNewHold s t h = true ↔ ∃ r, lookup s t = some r ∧ carries r h = false := by
  simp only [isNewHold, Option.any_eq_true, Bool.not_eq_true']

/-- A reason already held is not raised again, and a tag that finds no record raises nothing. -/
theorem addHold_held {h : HoldReason} {k : Nat} {a : Option Stage}
    (hheld : ∀ r, lookup s t = some r → carries r h = true) : addHold s t h k a = s := by
  have hn : ¬isNewHold s t h = true := by
    rw [isNewHold_iff]
    rintro ⟨r, hr, hc⟩
    exact Bool.noConfusion ((hheld r hr).symm.trans hc)
  rw [addHold, if_neg hn]

/-- HOLD RAISED leaves the table as it is. -/
theorem sendHoldRaised_records (s : State) (t : Tag) (h : HoldReason) (k : Nat) (a : Option Stage) :
    (sendHoldRaised s t h k a).records = s.records := by
  unfold sendHoldRaised
  split
  · rfl
  · simp

/-- A new hold adds its entry, stamped with the line clock, and places HOLD RAISED of the record as it then stands. -/
theorem addHold_new {h : HoldReason} {k : Nat} {a : Option Stage} (hr : lookup s t = some r)
    (hc : carries r h = false) :
    addHold s t h k a = placeNotice (putHold s t h k) supervisorNode
      (.holdRaised t h k (a.getD r.stage) (placeOf s t) (holdMarks { r with holds := r.holds ++ [⟨h, k, s.clock⟩] })) := by
  have hn : isNewHold s t h = true := isNewHold_iff.mpr ⟨r, hr, hc⟩
  have hl : lookup (putHold s t h k) t = some { r with holds := r.holds ++ [⟨h, k, s.clock⟩] } := by
    have hu := lookup_updRecord_same s t (fun r => { r with holds := r.holds ++ [⟨h, k, s.clock⟩] }) fun _ => rfl
    rw [hr] at hu
    exact hu
  rw [addHold, if_pos hn, sendHoldRaised, hl]
  rfl

/-- HOLD RAISED changes the notice queue alone. -/
theorem sendHoldRaised_frame (s : State) (t : Tag) (h : HoldReason) (k : Nat) (a : Option Stage) :
    ∃ p : LinePort, sendHoldRaised s t h k a = { s with lp := p } ∧ p.requests = s.lp.requests
      ∧ p.answers = s.lp.answers := by
  unfold sendHoldRaised
  split
  · exact ⟨s.lp, rfl, rfl, rfl⟩
  · simp only [toSupervisor, placeNotice]
    split
    · exact ⟨_, rfl, rfl, rfl⟩
    · exact ⟨s.lp, rfl, rfl, rfl⟩

/-- addHold changes the records and the notice queue alone. -/
theorem addHold_frame (s : State) (t : Tag) (h : HoldReason) (k : Nat) (a : Option Stage) :
    ∃ (rs : List Record) (p : LinePort), addHold s t h k a = { s with records := rs, lp := p }
      ∧ p.requests = s.lp.requests ∧ p.answers = s.lp.answers := by
  unfold addHold
  split
  · obtain ⟨p, hp, h1, h2⟩ := sendHoldRaised_frame (putHold s t h k) t h k a
    exact ⟨(putHold s t h k).records, p, by rw [hp]; rfl, h1, h2⟩
  · exact ⟨s.records, s.lp, rfl, rfl, rfl⟩

end Sys2Proof.Machine
end

