-- ==== Sys2Proof/Laws/Requests.lean ====
section
/-!
SUPPORT. What the taking of a request can do: it waits, or the head is taken and its owner's body is answered.
-/

namespace Sys2Proof.Machine

variable {s : State} {k : ReqKind} {f : Frame} {rest : List Frame} {n : Node} {b : Body}

/-- The sender of a station's node number is that station. -/
theorem senderOf_nodeNumber (n : Node) : senderOf (nodeNumber n) = some (.station n) := by
  revert n; decide

/-- The sender of the supervisor's node is the supervisor. -/
theorem senderOf_supervisor : senderOf supervisorNode = some .supervisor := by decide

/-- A head of the kind, with room for its answer, is taken. -/
theorem takeRequest_of_head (h : HeadIs s k f rest) : takeRequest k s = some (f, popped s rest) := by
  obtain ⟨hq, hk, -, hr⟩ := h
  simp [takeRequest, hq, hk, hasRoom, hr, popped]

/-- A request that is not takeable changes nothing. -/
theorem request_waits (h : takeRequest k s = none) : request k b s = s := by
  simp [request, h]

/-- A taken request of a station whose sender checks pass is its owner's body with its answer. -/
theorem request_of_station (h : FromStation s k n f rest) :
    request k b s =
      placeAnswer (b (.station n) f (popped s rest)).1
        (replyFrames (nodeNumber n) k.code (b (.station n) f (popped s rest)).2) := by
  obtain ⟨hh, hs, hj, hm, hl⟩ := h
  have hsend : frameSender f = some (.station n) := by
    rw [frameSender, hs, senderOf_nodeNumber]
  have hnone : senderRefusal k f (.station n) (popped s rest) = none := by
    have hlen : ¬ f.data.length < k.minBytes := Nat.not_lt.mpr hh.2.2.1
    have hjoin : ¬ (k ≠ .join ∧ s.stations[n].state ≠ .joined) := by tauto
    have hmay : ¬ (k.stationMay s.stations[n].kind = false) := fun h => Bool.noConfusion (hm.symm.trans h)
    unfold senderRefusal
    rw [if_neg hlen]
    show (if k ≠ .join ∧ s.stations[n].state ≠ .joined then some Reason.notJoined
      else if k.stationMay s.stations[n].kind = false then some .notPermitted
      else if s.line.state = .stopped ∧ k.refusedInStopped = true then some .lineState else none) = none
    rw [if_neg hjoin, if_neg hmay, if_neg hl]
  simp only [request, takeRequest_of_head hh, serve, hsend, hnone, hs]

/-- A taken request of the supervisor that it may send is its owner's body with its answer. -/
theorem request_of_supervisor (h : FromSupervisor s k f rest) :
    request k b s =
      placeAnswer (b .supervisor f (popped s rest)).1
        (replyFrames supervisorNode k.code (b .supervisor f (popped s rest)).2) := by
  obtain ⟨hh, hs, hm⟩ := h
  have hsend : frameSender f = some .supervisor := by rw [frameSender, hs, senderOf_supervisor]
  have hnone : senderRefusal k f .supervisor (popped s rest) = none := by
    have hlen : ¬ f.data.length < k.minBytes := Nat.not_lt.mpr hh.2.2.1
    simp [senderRefusal, hlen, hm]
  simp only [request, takeRequest_of_head hh, serve, hsend, hnone, hs]

/-- An answer of several frames is its first frame and one for each later part. -/
theorem laterFrames_length (dest k : Nat) (rs : List Result) : (laterFrames dest k rs).length = rs.length := by
  induction rs generalizing k with
  | nil => rfl
  | cons r rs ih => simp [laterFrames, ih]

/-- The number of frames of an answer. -/
theorem replyFrames_length (dest code : Nat) (r : Reply) : (replyFrames dest code r).length = r.later.length + 1 := by
  simp [replyFrames, laterFrames_length]

/-- The frames of a DONE answer of one frame. -/
@[simp] theorem replyFrames_done (dest code : Nat) (r : Result) :
    replyFrames dest code (replyDone r) = [doneFrame dest code r] := rfl

/-- The frames of a QUEUED answer. -/
@[simp] theorem replyFrames_queued (dest code : Nat) (r : Result) :
    replyFrames dest code (replyQueued r) = [queuedFrame dest code r] := rfl

/-- The frames of a REFUSED answer. -/
@[simp] theorem replyFrames_refused (dest code : Nat) (r : Reason) :
    replyFrames dest code (replyRefused r) = [refusedFrame dest code r] := rfl

/-- One frame placed is an answer with one frame. -/
theorem placeAnswer_one (t : State) (a : AnswerFrame) : placeAnswer t [a] = answeredWith t a := rfl

/-- A notice placed leaves the request and transmit queues, and at most 16 notices. -/
theorem placeNotice_lp (t : State) (d : Nat) (x : NoticeBody) :
    (placeNotice t d x).lp.requests = t.lp.requests ∧ (placeNotice t d x).lp.answers = t.lp.answers
      ∧ (t.lp.notices.length ≤ 16 → (placeNotice t d x).lp.notices.length ≤ 16) := by
  unfold placeNotice
  split
  · rename_i h
    refine ⟨rfl, rfl, fun _ => ?_⟩
    simp [Config.queueDepth] at h ⊢
    omega
  · exact ⟨rfl, rfl, id⟩

/-- A zero-filled field has its length, whatever bytes are given. -/
@[simp] theorem zeroFilled_length (n : Nat) (b : List Byte) : (zeroFilled n b).length = n := by
  simp [zeroFilled]

/-- A field without bytes is all zero. -/
@[simp] theorem zeroFilled_nil (n : Nat) : zeroFilled n [] = List.replicate n 0 := by
  simp [zeroFilled]

/-- Every answer frame has eight data bytes. -/
@[simp] theorem answerData_length (a : AnswerBody) : (answerData a).length = 8 := by
  cases a <;> simp [answerData, headBytes]

end Sys2Proof.Machine
end

