-- ==== Sys2Proof/Tests/Slice0.lean ====
section
/-!
SUPPORT. The model's own tests: ill-formed commands that WellFormed refuses, single commands on small states with results taken
from the manual, and witnesses that the hypotheses of each statement can be met, at the boundary values of its clauses.
-/

namespace Sys2Proof.Tests

set_option Elab.async false

open Sys2Proof Sys2Proof.Machine

/-! ## Frames and states -/

/-- A request frame. -/
def frame (k : ReqKind) (source : Nat) (fl : Fields := {}) (data : List Byte := List.replicate 8 0) : Frame :=
  { ident := identOf k.code source 0 0, data := data, fields := fl }

/-- The state with one frame in its request queue. -/
def headed (f : Frame) (s : State) : State := { s with lp.requests := [f] }

/-- A request of the supervisor at the head. -/
def sup (k : ReqKind) (fl : Fields) (s : State) : State := headed (frame k 14 fl) s

/-- A request of a station at the head. -/
def stn (n : Node) (k : ReqKind) (fl : Fields) (s : State) : State := headed (frame k (nodeNumber n) fl) s

/-- The state after a command. -/
def after (c : Instr) (s : State) : State :=
  match exec c s with
  | .next t => t
  | _ => s

/-- Status and reason of the newest answer. -/
def reply (s : State) : Option (Status × Option Reason) :=
  match s.lp.answers.find? (·.part == 0) with
  | some ⟨_, _, .head st r _ _⟩ => some (st, r)
  | _ => none

/-- The result of the newest answer. -/
def result (s : State) : Option Result :=
  match s.lp.answers.find? (·.part == 0) with
  | some ⟨_, _, .head _ _ _ r⟩ => some r
  | _ => none

/-- A record of class H with a declared charge of 300 g. -/
def aRecord (t : Nat) (stage : Stage) : Record :=
  { tag := BitVec.ofNat 32 t, enrolledClass := .h, cls := .h, foamClass := .h, foamWeight := 5, declaredCharge := some 300
    stage := stage, station := none, vessel := none, transfers := 0, recovered := 0, verdict := .none, dwellOverride := none
    holds := [], reevacUsed := 0, skipCount := 0, enrolStamp := 0, routeStamp := none, done1Stamp := none, batch := none
    foamShare := none }

/-- A hold entry raised by nobody at clock 0. -/
def aHold (h : HoldReason) : HoldEntry := ⟨h, 0, 0⟩

/-- A JOINED station. -/
def aStation (k : StationKind) (l : Option Lane) (claim : Option Tag) : StationEntry :=
  { state := .joined, kind := some k, lane := l, offered := {}, granted := { h := true, f := true, n := true, sniff := true }
    claim := claim, lostLatch := false, latestPressure := none }

/-- An enabled entry that has read a value. -/
def aSensor (k : SensorKind) (v : Int) : Sensor :=
  { Sensor.initial with enabled := true, kind := k, state := .normal, latest := some (v, 0) }

/-- A line in RUN: node 1 an INTAKE station, node 9 an EXTRACT station on LANE_C without a claim, node 10 one that claims record 7,
node 11 LOST with a claim on record 8; records 4 in INTAKE, 5 and 6 in LANE_C, 3 in BUFFER, 2 in CHAMBER, 1 in EXIT; vessel 0 IDLE. -/
def base : State :=
  { State.reset with
    clock := 1000000
    line := ⟨.run, false, false⟩
    cfg.ratings := .all .hf
    records := [aRecord 1 .rejected, { aRecord 2 .batched with batch := some 1 }, { aRecord 3 .done1 with verdict := .complete },
      aRecord 4 .new, aRecord 5 .routed, { aRecord 6 .routed with cls := .n },
      { aRecord 7 .claimed with station := some 9 }, { aRecord 8 .claimed with station := some 10, holds := [aHold .stationLost] }]
    zu := { State.reset.zu with intake := [4], lanes := ⟨[], [], [5, 6]⟩, buffer := [3], chamber := [2], exit := [1] }
    stations := (((State.reset.stations.set 0 (aStation .intake none none)).set 8 (aStation .extract (some .c) none)).set 9
      (aStation .extract (some .c) (some 7))).set 10 { aStation .extract (some .c) (some 8) with state := .lost }
    vu.vessels := State.reset.vu.vessels.set 0 { Vessel.initial .h 12 with state := .idle }
    sn.sensors := (((State.reset.sn.sensors.set 0 (aSensor .o2 30)).set 1 (aSensor .lel 100)).set 3 (aSensor .scale 500)).set 12
      (aSensor .scale 1000)
    cs.phase := .aborted
    cs.batchList := [2]
    cs.batchCounter := 1 }

/-- `base` with a change to record 7, which node 10 claims. -/
def with7 (f : Record → Record) : State := { base with records := base.records.map fun r => if r.tag = 7 then f r else r }

/-- `base` in another line state. -/
def inLine (l : LineState) : State := { base with line.state := l }

/-! ## WellFormed -/

/-- R187: a frame carries 0 to 8 data bytes. -/
theorem test_nine_data_bytes_ill_formed :
    (Instr.frameReceived (frame .leave 3 {} (List.replicate 9 0))).wellFormed = false := by decide +kernel

theorem test_eight_data_bytes_well_formed : (Instr.frameReceived (frame .leave 3)).wellFormed = true := by decide +kernel

/-- R198: the foam weight has 5 bits. -/
theorem test_foam_weight_ill_formed :
    (Instr.frameReceived (frame .adopt 14 { charge := some ⟨32, false, 0⟩ })).wellFormed = false := by decide +kernel

/-- R198: the declared charge has 11 bits. -/
theorem test_declared_charge_ill_formed :
    (Instr.frameReceived (frame .adopt 14 { charge := some ⟨5, true, 2048⟩ })).wellFormed = false := by decide +kernel

/-- R198: the class codes have two bits. -/
theorem test_cabinet_codes_ill_formed :
    (Instr.frameReceived (frame .reclaim 3 { cabinet := some ⟨4, 0, ⟨5, false, 0⟩⟩ })).wellFormed = false
      ∧ (Instr.frameReceived (frame .reclaim 3 { cabinet := some ⟨0, 4, ⟨5, false, 0⟩⟩ })).wellFormed = false := by decide +kernel

theorem test_cabinet_weight_ill_formed :
    (Instr.frameReceived (frame .reclaim 3 { cabinet := some ⟨0, 0, ⟨32, false, 0⟩⟩ })).wellFormed = false := by decide +kernel

/-! ## The manual's own examples -/

/-- R144: the check bytes of 0x0000 and 0x00B4. -/
theorem test_check_byte : checkByte 0x00 0x00 = 0x81 ∧ checkByte 0x00 0xB4 = 0xFA := by decide +kernel

/-- R146: 0xFE9A is −358 as TEMP and 1,000, clamped, as LEL. -/
theorem test_decode_sample : decodeSample .temp 0xFE9A = -358 ∧ decodeSample .lel 0xFE9A = 1000 := by decide +kernel

/-- R125: the examples of the conversion. -/
theorem test_gross :
    grossOf 65534 0 4095 = 262072 ∧ grossOf 1 65535 4095 = -262072 ∧ grossOf 1001 1000 512 = 1 ∧ grossOf 999 1000 512 = -1
      ∧ grossOf 1200 1200 1250 = 0 := by decide +kernel

/-- R126: the examples of the fill limit. -/
theorem test_fill_limit :
    fillLimit { Vessel.initial .h 12 with capacityG := 1000, fillPm := 500 } = 500
      ∧ fillLimit { Vessel.initial .h 12 with capacityG := 30001 } = 24000
      ∧ fillLimit { Vessel.initial .h 12 with capacityG := 60000, fillPm := 950 } = 57000 := by decide +kernel

/-- R129: the examples of the refrigerant. -/
theorem test_refrigerant :
    refrigerant 476 30 = 462 ∧ refrigerant 350 30 = 340 ∧ refrigerant 210 20 = 206 ∧ refrigerant 25 20 = 25
      ∧ refrigerant (-12) 30 = 0 := by decide +kernel

/-- R81: the active times of the table, pwm_period 100 ms. -/
theorem test_active_times :
    [0, 1, 2, 16, 64, 104, 256].map (fun d => (pwmPeriodAt 0 d 100).activeTime) = [0, 0, 0, 6, 25, 40, 100] := by decide +kernel

/-- R134, R135: the worked totals and shares. -/
theorem test_shares :
    apportion 1237 [7, 9, 5] = [412, 530, 295] ∧ apportion 10 [4, 4, 4] = [4, 3, 3]
      ∧ condensateTotal 3410 4647 = 1237 ∧ condensateTotal 3410 3380 = 0 ∧ condensateTotal 200 70000 = 65535 := by
  decide +kernel

/-- R137: the examples of the staged duty. -/
theorem test_nitrogen_duty :
    [180, 20, 100, 99, 97, 0, 700].map (nitrogenDuty Recipe.initial) = [104, 24, 64, 64, 63, 16, 256] := by decide +kernel

/-! ## Commands of LP and of the line -/

theorem test_powerOn_takes_levels :
    (after (.powerOn { quietLevels with estopAsserted := true, barrierFeed := true }) base).line = ⟨.config, true, false⟩
      ∧ (after (.powerOn { quietLevels with barrierFeed := true }) base).tu.slots.feed = .standing := by decide +kernel

theorem test_frameReceived_queues :
    (after (.frameReceived (frame .leave 9)) base).lp.requests = [frame .leave 9] := by decide +kernel

/-- R188: a frame that is no extended data frame is not taken. -/
theorem test_frameReceived_filter :
    (after (.frameReceived { frame .leave 9 with extended := false }) base).lp.requests = [] := by decide +kernel

theorem test_unknownKind :
    reply (after .unknownKind (headed { ident := identOf 0x20 14 0 0, data := [] } base)) = some (.refused, some .unknownKind) := by
  decide +kernel

/-- A notice, and its first frame under transmission. -/
def aNotice : Notice := ⟨14, .stationLost 0 none none 0 none⟩

def sentNotice : Transmission := ⟨.notice, formNotice aNotice 0⟩

/-- R195: the error count falls by 1 at each good transmission. -/
theorem test_frameTransmitted :
    (after .frameTransmitted { base with lp.sending := some sentNotice, lp.notices := [aNotice], lp.errorCount := 8 }).lp.errorCount
      = 7 := by decide +kernel

/-- R195: above 255 LP is BUS_OFF. -/
theorem test_transmitError_bus_off :
    (after (.transmitError .error) { base with lp.sending := some sentNotice, lp.errorCount := 248 }).lp.bus = .busOff
      ∧ (after (.transmitError .error) { base with lp.sending := some sentNotice, lp.errorCount := 247 }).lp.bus = .onBus := by
  decide +kernel

theorem test_busOffRecovery :
    (after .busOffRecovery { base with lp.bus := .busOff, lp.errorCount := 256 }).lp.errorCount = 0 := by decide +kernel

/-- R187, R192, R197: an ANSWER goes out under code 0x40 from node 0 with its part index, its first bytes status, reason and kind, and the
result bytes that nothing fills zero. -/
theorem test_transmissionStart :
    (after .transmissionStart { base with lp.answers := [⟨14, 2, .more .empty⟩] }).lp.sending
        = some ⟨.answer, 0x0801C800, [0, 0, 0, 0, 0, 0, 0, 0], .result .empty⟩
      ∧ formAnswer ⟨3, 0, .head .refused (some .unknownKind) 0x20 .empty⟩ = ⟨0x08006000, [2, 13, 0x20, 0, 0, 0, 0, 0], .result .empty⟩
      ∧ (formAnswer ⟨14, 4, .more (.bytes [1, 2])⟩).data = [1, 2, 0, 0, 0, 0, 0, 0] := by
  decide +kernel

/-- R193: LIMIT is kind 0x87, DISCHARGE REPORT 0x8A. -/
theorem test_notice_identifier :
    (formNotice ⟨14, .limit 0 .o2 .normal .fault 0 true false 0⟩ 1).ident = 0x10E1C400
      ∧ (formNotice ⟨14, .discharge 1 .exit .h .h .h 0 0 0 .none 0 none 0 0⟩ 0).ident = 0x1141C000 := by decide +kernel

/-- R54: the granted set is cut to the lane's rating. -/
theorem test_join_granted :
    result (after .join (stn 8 .join { stationKind := some .extract, lane := some .c, offered := { h := true, f := true } }
        { base with cfg.ratings := .all .h })) = some (.joined { h := true } 0) := by decide +kernel

/-- R53: a lane takes three EXTRACT stations. -/
theorem test_join_fourth :
    reply (after .join (stn 1 .join { stationKind := some .extract, lane := some .c } base)) = some (.refused, some .notPermitted) := by
  decide +kernel

theorem test_leave_busy : reply (after .leave (stn 9 .leave {} base)) = some (.refused, some .busy) := by decide +kernel

theorem test_pulse : result (after .pulse (stn 9 .pulse {} base)) = some (.alive .run 7) := by decide +kernel

/-- R198: tag 0x0000228C, class F, foam class H, 21 kg, 120 g, override 90 s. -/
theorem test_enrol_record :
    (after .enrol (headed (frame .enrol 1 {} [0x00, 0x00, 0x22, 0x8C, 0x4C, 0x5A, 0xA8, 0x78]) base)).records.getLast?
      = some { aRecord 0x228C .new with
          enrolledClass := .f, cls := .f, foamWeight := 21, declaredCharge := some 120, dwellOverride := some 90
          enrolStamp := 1000000 } := by decide +kernel

theorem test_look : result (after .look (sup .look { tag := 7 } base)) = some (.lookPlace 7 .claimed (some (.station 9))) := by
  decide +kernel

theorem test_claimNext_first : result (after .claimNext (stn 8 .claimNext {} base)) = some (.claimed 5 .h) := by decide +kernel

/-- R39, R65: a class N record is DONE1 at the claim. -/
theorem test_claimNext_empty :
    tagStage (after .claimNext (stn 8 .claimNext {} { base with zu.lanes := ⟨[], [], [6]⟩ })) 6 = .done1 := by decide +kernel

theorem test_reclaim_own : result (after .reclaim (stn 9 .reclaim { tag := 7 } base)) = some (.reclaimed .claimed false) := by
  decide +kernel

theorem test_classFound : tagStage (after .classFound (stn 9 .classFound { tag := 7, classCode := 2 } base)) 7 = .done1 := by
  decide +kernel

/-- R89, R111: with an IDLE vessel the request is granted in the same event. -/
theorem test_inletRequest :
    result (after .inletRequest (stn 9 .inletRequest { tag := 7 } base)) = some (.inlet .h 1)
      ∧ (after .inletRequest (stn 9 .inletRequest { tag := 7 } base)).vu.vessels[(0 : Fin 4)].bound = some (7, 9) := by decide +kernel

/-- R94: a pressure above 200,000 Pa is limited. -/
theorem test_pressure_limit :
    result (after .pressure (stn 9 .pressure { tag := 7, pressure := 200001 } base)) = some (.pressure 200000 .none) := by decide +kernel

theorem test_reEvacuate :
    result (after .reEvacuate (stn 9 .reEvacuate { tag := 7 } (with7 fun r => { r with holds := [aHold .leak] }))) = some (.inlet .h 1) := by
  decide +kernel

theorem test_release :
    (after .release (stn 9 .release { tag := 7 } (with7 fun r => { r with stage := .done1 }))).zu.buffer = [3, 7] := by decide +kernel

/-! ## Configuration, reports and the line state -/

/-- R202: a value outside its range is clamped. -/
theorem test_configWrite_clamps :
    result (after .configWrite (sup .configWrite { item := some (.config (.line .riseLimit)), value := .number 20001 } base))
      = some (.stored (.number 20000)) := by decide +kernel

/-- R93: hold_end must stay above hold_delay. -/
theorem test_configWrite_pair :
    reply (after .configWrite (sup .configWrite { item := some (.config (.line .holdEnd)), value := .number 5 } base))
      = some (.refused, some .badValue) := by decide +kernel

theorem test_configRead :
    result (after .configRead (sup .configRead { item := some (.config (.line .slotInterval)) } base)) = some (.stored (.number 50)) := by
  decide +kernel

/-- R158: purge_max is raised above a purge_min that reaches it. -/
theorem test_recipeWrite_purge :
    (after .recipeWrite (sup .recipeWrite { recipeItem := some (.param .purgeMin), value := .number 180 } base)).cs.staged.purgeMax = 181 := by
  decide +kernel

theorem test_recipeCommit_default : (after .recipeCommit (sup .recipeCommit {} base)).cs.commitMark = true := by decide +kernel

theorem test_recipeCommit_first_failure :
    result (after .recipeCommit (sup .recipeCommit {} { base with cs.staged := { Recipe.initial with lelPause := 150, o2Abort := 0 } }))
      = some (.commitFailed .lelOrder) := by decide +kernel

theorem test_lineStart : result (after .lineStart (sup .lineStart {} (inLine .config))) = some (.reconcileWindow 120) := by decide +kernel

theorem test_lineOpen : (after .lineOpen (sup .lineOpen {} (inLine .reconcile))).line.state = .run := by decide +kernel

theorem test_lineResume_estop :
    reply (after .lineResume (sup .lineResume {} { inLine .stopped with line.estopActive := true })) = some (.refused, some .lineState) := by
  decide +kernel

/-- R208: the clock and the batch counter stay. -/
theorem test_lineReset :
    (after .lineReset (sup .lineReset {} base)).records = [] ∧ (after .lineReset (sup .lineReset {} base)).cs.batchCounter = 1
      ∧ (after .lineReset (sup .lineReset {} base)).clock = 1000000 := by decide +kernel

theorem test_adopt :
    result (after .adopt (sup .adopt { tag := 20, zoneCode := 5, stageCode := 6 } (inLine .reconcile))) = some (.occupancy 2) := by
  decide +kernel

theorem test_recordRead_frames :
    (after .recordRead (sup .recordRead { tag := 3 } base)).lp.answers.map (·.part) = [0, 1, 2, 3, 4] := by decide +kernel

theorem test_zoneRead_slots :
    ((after .zoneRead (sup .zoneRead { zoneCode := 3 } base)).lp.answers.map (·.body)).drop 1
      = [.more (.zoneSlot (some ⟨5, .routed, false⟩)), .more (.zoneSlot (some ⟨6, .routed, false⟩))] := by decide +kernel

theorem test_stationStatus_latch :
    (after .stationStatus (sup .stationStatus { node := 11 }
      { base with stations := base.stations.set 10 { base.stations[(10 : Fin 12)] with lostLatch := true } })).stations[(10 : Fin 12)].lostLatch
      = false := by decide +kernel

theorem test_vesselStatus :
    result (after .vesselStatus (sup .vesselStatus { index := 0 } base)) = some (.vesselEntry .idle .h none 0 0 0) := by decide +kernel

theorem test_sensorStatus :
    result (after .sensorStatus (sup .sensorStatus { index := 0 } base)) = some (.sensorEntry 0 true .o2 8 0 .normal false 0 0) := by
  decide +kernel

theorem test_chamberStatus :
    result (after .chamberStatus (sup .chamberStatus {} base)) = some (.chamberPhase .aborted .none .idle 0 0 false false) := by
  decide +kernel

/-! ## Records, vessels and stations by the supervisor -/

theorem test_hold : result (after .hold (sup .hold { tag := 5 } base)) = some (.held .routed false) := by decide +kernel

/-- R181: the claim of a lost station goes back to the head of its lane. -/
theorem test_clearHold_returns_claim :
    (after .clearHold (sup .clearHold { tag := 8, reasonCode := 1 } base)).zu.lanes.c = [8, 5, 6] := by decide +kernel

/-- R182: the check of the class comes first, also for a record that does not carry the reason. -/
theorem test_clearHold_class_not_covered :
    reply (after .clearHold (sup .clearHold { tag := 7, reasonCode := 2 } base)) = some (.done, none)
      ∧ reply (after .clearHold (sup .clearHold { tag := 7, reasonCode := 2 }
        { base with stations := base.stations.set 9 { aStation .extract (some .c) (some 7) with granted := {} } }))
        = some (.refused, some .notEligible) := by decide +kernel

theorem test_dispose : (after .dispose (sup .dispose { tag := 5 } base)).zu.exit = [1, 5] := by decide +kernel

theorem test_retire : (after .retire (sup .retire { tag := 1 } base)).records.map (·.tag) = [2, 3, 4, 5, 6, 7, 8] := by decide +kernel

/-- R20: 9 s is stored as 10 s. -/
theorem test_override : result (after .override (sup .override { tag := 5, seconds := 9 } base)) = some (.dwell 10) := by decide +kernel

theorem test_vesselOnline :
    result (after .vesselOnline (sup .vesselOnline { index := 0, tare := 262140 }
      { base with vu.vessels := base.vu.vessels.set 0 (.initial .h 12) })) = some (.vesselOnline 0 .h 24000) := by decide +kernel

theorem test_vesselOffline :
    (after .vesselOffline (sup .vesselOffline { index := 0 } base)).vu.vessels[(0 : Fin 4)].state = .offline := by decide +kernel

theorem test_bar_raises_station_lost :
    tagCarries (after .bar (sup .bar { node := 10 } base)) 7 .stationLost = true := by decide +kernel

theorem test_unbar_not_barred : reply (after .unbar (sup .unbar { node := 9 } base)) = some (.refused, some .badStage) := by decide +kernel

theorem test_gateClear :
    (after .gateClear (sup .gateClear { index := 3 } { base with zu.gates := base.zu.gates.set .feed ⟨.blocked, false, none⟩ })).zu.gates.feed
      = ⟨.idle, false, none⟩ := by decide +kernel

theorem test_chamberRestart :
    (after .chamberRestart (sup .chamberRestart {} { base with tu.door.filtered := true })).cs.phase = .purging := by decide +kernel

theorem test_chamberClear : (after .chamberClear (sup .chamberClear {} base)).cs.phase = .unloading := by decide +kernel

/-! ## Inputs, gates and timers -/

theorem test_rawInputChange :
    (after (.rawInputChange .door true) base).tu.door = ⟨true, 1000000, false, some ⟨1000000, 20⟩⟩ := by decide +kernel

/-- R85: the clearing of a BROKEN slot gives a passage event with the candidate's stamp. -/
theorem test_inputChangeAccepted :
    (after (.inputChangeAccepted (.barrier .feed)) { base with
      tu.barriers := base.tu.barriers.set .feed ⟨false, 999980, true, some ⟨999980, 20⟩⟩
      tu.slots := base.tu.slots.set .feed .broken }).tu.passages = [⟨.feed, 999980, 1000000, false⟩] := by decide +kernel

/-- A lane gate with record 4 in passage, and its passage event. -/
def passing : State :=
  { base with zu.gates := base.zu.gates.set (.lane .a) ⟨.released, true, some 4⟩, tu.passages := [⟨.lane .a, 999000, 999020, false⟩] }

theorem test_passage : (after (.passage (.lane .a)) passing).zu.lanes.a = [4] := by decide +kernel

/-- R35: a passage at an IDLE gate sets it BLOCKED. -/
theorem test_passage_unexpected :
    ((after (.passage (.lane .a)) { passing with zu.gates := base.zu.gates }).zu.gates.get (.lane .a)).state = .blocked := by
  decide +kernel

/-- R87: an expiry that came before the passage event is taken first; one that came after it leaves the event to be taken. -/
theorem test_passage_after_expiry :
    after (.passage (.lane .a)) { passing with tu.passage := base.tu.passage.set (.lane .a) ⟨.idle, some 999019⟩ }
        = { passing with tu.passage := base.tu.passage.set (.lane .a) ⟨.idle, some 999019⟩ }
      ∧ (after (.passage (.lane .a)) { passing with tu.passage := base.tu.passage.set (.lane .a) ⟨.idle, some 999021⟩ }).zu.lanes.a = [4] := by
  decide +kernel

theorem test_passageTimeout :
    tagCarries (after (.passageTimeout (.lane .a)) { passing with tu.passage := base.tu.passage.set (.lane .a) ⟨.idle, some 999000⟩ }) 4 .jam
      = true := by decide +kernel

theorem test_heartbeatExpiry :
    (after (.heartbeatExpiry 9) { base with tu.heartbeat := base.tu.heartbeat.set 9 ⟨.idle, some 999000⟩ }).stations[(9 : Fin 12)].state
      = .lost := by decide +kernel

/-- Record 7 EVACUATING into vessel 0, its dwell over at clock 999,000. -/
def filling : State :=
  { with7 (fun r => { r with stage := .evacuating }) with
    vu.vessels := base.vu.vessels.set 0
      { base.vu.vessels[(0 : Fin 4)] with state := .filling, valve := true, bound := some (7, 9), baselineGross := some 5000 }
    tu.station := base.tu.station.set 9 ⟨.idle, some 999000, none, none⟩
    progress := base.progress.set 9 { Progress.initial with state := .dwell, tag := some 7 } }

theorem test_dwellExpiry :
    tagStage (after (.dwellExpiry 9) filling) 7 = .vacuumHold
      ∧ (after (.dwellExpiry 9) filling).vu.vessels[(0 : Fin 4)].valve = false
      ∧ (after (.dwellExpiry 9) filling).tu.settle[(0 : Fin 4)] = ⟨.running 1002000, none⟩ := by decide +kernel

/-- A hold window over record 7 with a baseline of 2,400 Pa and a last reading of the given pressure. -/
def window (last : Nat) : State :=
  { with7 (fun r => { r with stage := .vacuumHold }) with
    tu.station := base.tu.station.set 9 ⟨.idle, none, none, some 999900⟩
    progress := base.progress.set 9 ⟨.holdOpen, some 7, some 969900, some ⟨5, 30, 500⟩, some (2400, 980000), some (last, 990000), 2⟩ }

theorem test_windowOpen :
    (after (.windowOpen 9) { window 2400 with
      tu.station := base.tu.station.set 9 ⟨.opened 1020000, none, some 999900, none⟩
      progress := base.progress.set 9 { Progress.initial with state := .holdWait, tag := some 7 } }).progress[(9 : Fin 12)].state
      = .holdOpen := by decide +kernel

/-- R96: a rise of 500 Pa passes and one of 501 Pa fails. -/
theorem test_windowClose :
    tagStage (after (.windowClose 9) (window 2900)) 7 = .done1 ∧ tagCarries (after (.windowClose 9) (window 2901)) 7 .leak = true := by
  decide +kernel

theorem test_settleExpiry :
    (after (.settleExpiry 0) { base with
      vu.vessels := base.vu.vessels.set 0 { base.vu.vessels[(0 : Fin 4)] with state := .settling, bound := some (7, 9) }
      tu.settle := base.tu.settle.set 0 ⟨.idle, some 999000⟩ }).sn.requests = [⟨.vessel 0, 12⟩] := by decide +kernel

/-- R143: the signals of a transaction that the second byte ends, and of one that runs whole. -/
theorem test_transaction_signals :
    transactionSent ⟨3, 8, 2, false⟩ (.nack 1) = [.start, .addressWrite 8, .byte 2, .stop]
      ∧ (transactionSent ⟨3, 8, 2, false⟩ (.bytes 0 0 0)).drop 3
        = [.repeatedStart, .addressRead 8, .acknowledge, .acknowledge, .noAcknowledge, .stop] := by decide +kernel

theorem test_slotStart : (after .slotStart { base with sn.lastPolled := 3 }).sn.inFlight = some ⟨12, 8, 0, false⟩ := by decide +kernel

/-- R148: the third failed poll is FAULT. -/
theorem test_pollEnd_fault :
    (after (.pollEnd (.nack 0) (.bytes 0 0xB4 0xFB)) { base with
      sn.inFlight := some ⟨0, 8, 0, false⟩
      sn.sensors := base.sn.sensors.set 0 { aSensor .o2 30 with failCount := 2 } }).sn.sensors[(0 : Fin 16)].state = .fault := by
  decide +kernel

/-- R145: the retry with a right check byte is a good poll of 180. -/
theorem test_pollEnd_good :
    (after (.pollEnd (.nack 0) (.bytes 0 0xB4 0xFA)) { base with sn.inFlight := some ⟨0, 8, 0, false⟩ }).sn.sensors[(0 : Fin 16)].latest
      = some (180, 1000000) := by decide +kernel

theorem test_immediateUnusableAnswer :
    (after (.immediateUnusableAnswer (.vessel 0)) { base with
      sn.immediate := [.vessel 0]
      vu.vessels := base.vu.vessels.set 0 { base.vu.vessels[(0 : Fin 4)] with state := .baseline, bound := some (7, 9) } }).vu.inqH
      = [⟨9, 7⟩] := by decide +kernel

/-- R155: at the timeout of FEED_GATE the PHASE of the loading that the skip rule closes goes ahead of the HOLD RAISED. -/
theorem test_phase_before_hold_raised :
    ((after (.passageTimeout .feed) { base with
        cs.phase := .loading
        cs.ffCount := 2
        records := base.records.map fun r => if r.tag = 3 ∨ r.tag = 4 then { r with foamClass := .f, verdict := .complete, skipCount := 3 } else r
        zu := { base.zu with intake := [], buffer := [3, 4], gates := base.zu.gates.set .feed ⟨.released, true, some 3⟩ }
        tu.passage := base.tu.passage.set .feed ⟨.idle, some 999000⟩ }).lp.notices.map fun x =>
          match x.body with | .phase _ q _ _ _ => some q | _ => none) = [some .sealing, none] := by decide +kernel

/-- R168: an event of the O2 entry lets the LEL of CONDENSING be judged, l 400 at an lel_abort of 400. -/
theorem test_condensing_o2_event :
    (chamberSensor { base with cs.phase := .condensing, tu.door.filtered := true, sn.sensors := base.sn.sensors.set 1 (aSensor .lel 400) } 0
      true).cs.phase = .aborted := by decide +kernel

/-- R76: a window reports its state and the time to its next point. -/
theorem test_window_read :
    [StationRun.idle, .waiting 1005000 1030000, .opened 1030000].map (fun w =>
        (scReported ⟨w, none, none, none⟩, scRemainingMs 1000000 ⟨w, none, none, none⟩))
      = [(.idle, 0), (.waiting, 5000), (.opened, 30000)] := by decide +kernel

/-- `base` in a phase with an expiry of the phase channel pending. -/
def expiring (p : Phase) : State := { base with cs.phase := p, tu.phase := ⟨.idle, some 999000⟩ }

theorem test_phaseExpiry_sealing : (after .phaseExpiry (expiring .sealing)).cs.phase = .aborted := by decide +kernel

theorem test_pauseExpiry :
    (after .pauseExpiry { base with cs.phase := .paused, tu.pause := ⟨.idle, some 999000⟩ }).cs.phase = .aborted := by decide +kernel

theorem test_loadExpiry :
    (after .loadExpiry { base with cs.phase := .loading, tu.load := ⟨.idle, some 999000⟩, zu.buffer := [] }).cs.phase = .sealing := by
  decide +kernel

theorem test_reconcileExpiry :
    (after .reconcileExpiry { inLine .reconcile with line.estopActive := true, tu.reconcile := ⟨.idle, some 999000⟩ }).line
      = ⟨.reconcile, true, true⟩ := by decide +kernel

theorem test_pwmPeriodStart :
    (after .pwmPeriodStart { base with tu.pwm := ⟨some ⟨999900, 100, 25⟩, 104, 64⟩ }).tu.pwm = ⟨some ⟨1000000, 100, 40⟩, 104, 104⟩ := by
  decide +kernel

theorem test_activeTimeEnd :
    (after .activeTimeEnd { base with tu.pwm := ⟨some ⟨999975, 100, 25⟩, 64, 64⟩, cs.outputs.n2Prop := true }).cs.outputs.n2Prop = false := by
  decide +kernel

/-! ## The step -/

theorem test_step_command : step { base with pending := [.leave, .pulse] } = exec .leave { base with pending := [.pulse] } := rfl

/-! ## Witnesses: states and operands that meet the hypotheses of the statements -/

/-- The request state of a station, and its frame, on `base`. -/
abbrev fits (k : ReqKind) (n : Node) (fl : Fields) (s : State) : Prop :=
  FromStation (stn n k fl s) k n (frame k (nodeNumber n) fl) []

/-- The request state of the supervisor, and its frame. -/
abbrev supFits (k : ReqKind) (fl : Fields) (s : State) : Prop := FromSupervisor (sup k fl s) k (frame k 14 fl) []

/-- Requests of the supervisor that pass the sender checks, whichever fields they carry. -/
def allFit (k : ReqKind) (l : List Fields) (s : State) : Bool := l.all fun fl => decide (supFits k fl s)

/-- No command waiting; a deadline that the tick reaches, one that it does not reach, a frozen and an idle channel; the longest duration over
a wrap of the clock, just reached and just not; a station channel in each of its runs; a window before, between, at, and after its points;
a start, a freeze of a running channel and of one past its deadline, and a resume. -/
theorem witness_IdleStepIsOneTick :
    base.pending = [] ∧ ({ base with tu.phase := ⟨.running 1000001, none⟩ } : State).tu.phase.run = .running 1000001
      ∧ reached (base.clock + 1) 1000001 = true ∧ reached (base.clock + 1) 1000002 = false
      ∧ ((⟨.frozen 1, none⟩ : Channel).run = .frozen 1 ∧ (⟨.idle, none⟩ : Channel).run = .idle)
      ∧ (1800000 ≤ 1800000 ∧ 1800000 < 2 ^ 31)
      ∧ (reached (4294967295 + msec 1800000) (4294967295 + msec 1800000) = true
          ∧ reached (4294967295 + msec 1799999) (4294967295 + msec 1800000) = false)
      ∧ ((⟨.idle, none, none, none⟩ : StationChannel).run = .idle ∧ (⟨.deadline 5, none, none, none⟩ : StationChannel).run = .deadline 5
          ∧ (⟨.waiting 5 6, none, none, none⟩ : StationChannel).run = .waiting 5 6
          ∧ (⟨.opened 6, none, none, none⟩ : StationChannel).run = .opened 6)
      ∧ reached 0 1 = false ∧ (reached 1 1 = true ∧ reached 1 2 = false) ∧ (reached 2 1 = true ∧ reached 2 2 = true)
      ∧ chStart 6 = ⟨.running 6, none⟩
      ∧ ([4, 5, 6].map fun d => chFreeze 5 ⟨.running d, none⟩) = [⟨.frozen 1, none⟩, ⟨.frozen 1, none⟩, ⟨.frozen 1, none⟩]
      ∧ (chFreeze 5 ⟨.running 12, none⟩ = ⟨.frozen 7, none⟩ ∧ chResume 20 ⟨.frozen 7, none⟩ = ⟨.running 27, none⟩) := by decide +kernel

/-- R74: a run started at its reached deadline is RUNNING until its owner takes the expiry, and waits a millisecond before it. -/
theorem witness_reached_start :
    (reportedRun (chStart 5), remainingMs 5 (chStart 5)) = (.running, 0)
      ∧ (after .loadExpiry { base with cs.phase := .loading, tu.load := chStart 1000000, zu.buffer := [] }).cs.phase = .sealing
      ∧ after .loadExpiry { base with tu.load := chStart 1000001 } = { base with tu.load := chStart 1000001 }
      ∧ (after (.windowOpen 9) { window 2400 with
          tu.station := base.tu.station.set 9 ⟨.waiting 1000000 1020000, none, none, none⟩
          progress := base.progress.set 9 { Progress.initial with state := .holdWait, tag := some 7 } }).progress[(9 : Fin 12)].state
        = .holdOpen
      ∧ tagStage (after (.windowClose 9) { window 2900 with
          tu.station := base.tu.station.set 9 ⟨.opened 1000000, none, none, none⟩ }) 7 = .done1
      ∧ tagStage (after (.dwellExpiry 9) { filling with tu.station := base.tu.station.set 9 ⟨.deadline 999000, none, none, none⟩ }) 7
        = .vacuumHold := by decide +kernel

/-- First levels with barrier B interrupted. -/
theorem witness_PowerOnGivesTheStartState :
    (after (.powerOn { quietLevels with barrierB := true }) base).tu.barriers.get (.lane .b) = ⟨true, 0, true, none⟩
      ∧ (after (.powerOn { quietLevels with barrierB := true }) base).tu.slots.get (.lane .b) = .standing
      ∧ (after (.powerOn quietLevels) base).vu.vessels[(2 : Fin 4)].streamClass = .f
      ∧ paramValue (after (.powerOn quietLevels) base).cs.working .trapMax = -350 := by decide +kernel

/-- A frame accepted and one not; request and transmit queues with 15 and with 16 frames; the shortest and longest timeout. -/
theorem witness_FrameReceivedIsQueuedOrAnswered :
    frameAccepted (frame .leave 12) = true ∧ frameAccepted (frame .leave 13) = false
      ∧ base.lp.bus = .onBus ∧ ({ base with lp.bus := .busOff } : State).lp.bus = .busOff
      ∧ frameSource (frame .leave 12) = nodeNumber 11
      ∧ (List.replicate 15 (frame .leave 12)).length < 16 ∧ 16 ≤ (List.replicate 16 (frame .leave 12)).length
      ∧ (0 < 1 ∧ 1 ≤ 30000) ∧ (0 < 30000 ∧ 30000 ≤ 30000) := by decide +kernel

/-- No head, a head of another kind, a full transmit queue; then each refusal in turn. -/
theorem witness_RequestWaitsOrIsRefused :
    base.lp.requests = [] ∧ frameKind (frame .leave 9) ≠ ReqKind.pulse.code
      ∧ 16 < (List.replicate 16 (⟨14, 0, .more .empty⟩ : AnswerFrame)).length + ReqKind.leave.frames
      ∧ (List.replicate 12 (⟨14, 0, .more .empty⟩ : AnswerFrame)).length + ReqKind.chamberStatus.frames ≤ 16
      ∧ ((frame .look 9 {} [1, 2, 3]).data.length < ReqKind.look.minBytes ∧ (frameSender (frame .look 9)).isSome = true)
      ∧ base.stations[(1 : Fin 12)].state ≠ .joined
      ∧ (base.stations[(8 : Fin 12)].state = .joined ∧ ReqKind.enrol.stationMay base.stations[(8 : Fin 12)].kind = false)
      ∧ (ReqKind.release.stationMay base.stations[(8 : Fin 12)].kind = true ∧ (inLine .stopped).line.state = .stopped)
      ∧ (frameSource (frame .join 14) = 14 ∧ ReqKind.join.supervisorMay = false) := by decide +kernel

/-- Tag 20 finds no record. -/
theorem witness_unknown_tag :
    lookup base 20 = none ∧ base.line.state = .run
      ∧ [ReqKind.pressure, .classFound, .release, .inletRequest, .reEvacuate].all
          (fun k => decide (fits k 9 { tag := 20, classCode := 2 } base)) = true
      ∧ [ReqKind.hold, .dispose, .retire, .override].all (fun k => decide (supFits k { tag := 20 } base)) = true := by decide +kernel

theorem test_unknown_tag :
    [ReqKind.pressure, .classFound, .release, .inletRequest, .reEvacuate].map
          (fun k => reply (after (requestCommand k) (stn 9 k { tag := 20 } base))) = List.replicate 5 (some (.refused, some .unknownTag))
      ∧ [ReqKind.hold, .dispose, .retire, .override].map
          (fun k => reply (after (requestCommand k) (sup k { tag := 20 } base))) = List.replicate 4 (some (.refused, some .unknownTag)) := by
  decide +kernel

/-- Codes at the ends of the two ranges, and the codes next to them. -/
theorem witness_unknown_kinds :
    [0x10, 0x11, 0x1C, 0x1D, 0x20, 0x21, 0x3B, 0x3C].map isRequestCode = [false, true, true, false, false, true, true, false] := by
  decide +kernel

/-- A free transmitter with nothing, with one queue and with both; a begun answer; each kind of result; a busy one and one in BUS_OFF; the
count that goes BUS_OFF. -/
theorem witness_TransmitterSendsTheQueues :
    (base.lp.bus = .onBus ∧ base.lp.sending = none ∧ base.lp.answers = [] ∧ base.lp.notices = [])
      ∧ (⟨14, 1, .more .empty⟩ : AnswerFrame) :: [] ≠ [] ∧ ([aNotice] : List Notice) ≠ []
      ∧ (∃ fr : OutFrame, ({ base with lp.sending := some sentNotice, lp.notices := [aNotice] } : State).lp.sending = some ⟨.notice, fr⟩)
      ∧ (∃ fr : OutFrame, ({ base with lp.sending := some ⟨.orphan, 0, [], .notice aNotice.body⟩ } : State).lp.sending = some ⟨.orphan, fr⟩)
      ∧ (Result.held .new true ≠ .empty ∧ ∀ l : List Byte, Result.held .new true ≠ .bytes l)
      ∧ ¬255 < 247 + 8 ∧ 255 < 248 + 8 :=
  ⟨by decide +kernel, nofun, nofun, ⟨_, rfl⟩, ⟨_, rfl⟩, ⟨nofun, nofun⟩, by decide, by decide⟩

/-- R193: a notice joins 15 others, and is discarded at 16. -/
theorem test_notice_room :
    [15, 16].map (fun k => (placeNotice { base with lp.notices := List.replicate k aNotice } 14 aNotice.body).lp.notices.length)
      = [16, 16] := by decide +kernel

/-- Two identifiers that differ in bits 12 to 0 alone; the largest fields of an identifier and of an Enrol. -/
theorem witness_FrameBitsReadBack :
    ({ frame .leave 3 with ident := 0x0247FFFF } : Frame).ident.extractLsb' 13 16
        = ({ frame .leave 3 with ident := 0x0247E000 } : Frame).ident.extractLsb' 13 16
      ∧ (255 < 256 ∧ 15 < 16 ∧ 7 < 8) ∧ (3 < 4 ∧ 31 < 32 ∧ 2047 < 2048 ∧ 1023 < 1024)
      ∧ frameEnrol (frame .enrol 1 {} [255, 255, 255, 255, 255, 255, 255, 255]) = ⟨0xFFFFFFFF, 3, 3, ⟨31, true, 2047⟩, true, 1023⟩ := by
  decide +kernel

/-- Fields of a Join as EXTRACT on a lane. -/
def joinC (l : Lane) : Fields := { stationKind := some .extract, lane := some l }

/-- A rejoin with a claim to a lane with two others, and a Join of an INTAKE station. -/
theorem witness_join_taken :
    (fits .join 9 (joinC .c) base ∧ othersOnLane base 9 .c = 2 ∧ base.stations[(9 : Fin 12)].claim ≠ none
        ∧ base.stations[(9 : Fin 12)].lane = joinLane (frame .join 10 (joinC .c)) .extract)
      ∧ fits .join 1 { stationKind := some .intake } base := by decide +kernel

/-- A Join in CONFIG, and one of a BARRED entry. -/
theorem witness_join_refused :
    fits .join 1 (joinC .c) (inLine .config)
      ∧ (fits .join 1 (joinC .a) { base with stations := base.stations.set 1 { StationEntry.initial with state := .barred } }) := by
  decide +kernel

/-- A bad kind, no lane, another mark, another lane than the claim's, and a full lane. -/
theorem witness_join_refused_values :
    fits .join 1 {} base ∧ fits .join 1 { stationKind := some .extract } base
      ∧ fits .join 1 { stationKind := some .intake, offeredOther := true } base
      ∧ (fits .join 9 (joinC .a) base ∧ base.stations[(9 : Fin 12)].lane ≠ some .a)
      ∧ (fits .join 1 (joinC .c) base ∧ othersOnLane base 1 .c = 3) := by decide +kernel

/-- R53: a Join as INTAKE from an entry of kind EXTRACT that holds a claim. R54: SNIFF granted afresh, and as before. -/
theorem witness_join_intake_with_claim :
    (fits .join 9 { stationKind := some .intake } base ∧ base.stations[(9 : Fin 12)].claim ≠ none
        ∧ base.stations[(9 : Fin 12)].kind ≠ some .intake)
      ∧ reply (after .join (stn 9 .join { stationKind := some .intake } base)) = some (.refused, some .notPermitted)
      ∧ newlySniffs .initial (aStation .extract (some .c) none) = true
      ∧ newlySniffs (aStation .extract (some .c) none) (aStation .extract (some .c) none) = false := by decide +kernel

theorem witness_JoinLeavePulseAndLook :
    (fits .leave 8 {} base ∧ base.stations[(8 : Fin 12)].claim = none) ∧ (fits .leave 9 {} base ∧ base.stations[(9 : Fin 12)].claim ≠ none)
      ∧ fits .pulse 9 {} base ∧ (fits .look 9 { tag := 7 } base ∧ lookup base 7 ≠ none) ∧ (supFits .look { tag := 9 } base ∧ lookup base 9 = none) := by
  decide +kernel

/-- `base` with record 7 at a stage. -/
def stage7 (st : Stage) : State := with7 fun r => { r with stage := st }

/-- Record 7 in WAIT_INLET with the grant of vessel 0 in BASELINE. -/
def granted : State :=
  { stage7 .waitInlet with
    vu.vessels := base.vu.vessels.set 0 { base.vu.vessels[(0 : Fin 4)] with state := .baseline, bound := some (7, 9) } }

/-- A JOINED node's expiry; then each stage of the claimed record, in WAIT_INLET without a vessel and with one in BASELINE, with the FILLING
vessel of an evacuation. Nodes 0 and 13 name nothing, 1 and 12 are the first and the last. -/
theorem witness_StationLostByHeartbeatOrBar :
    (({ base with tu.heartbeat := base.tu.heartbeat.set 9 ⟨.idle, some 5⟩ } : State).tu.heartbeat[(9 : Fin 12)].expiry = some 5
        ∧ base.stations[(9 : Fin 12)].state = .joined)
      ∧ base.stations[(8 : Fin 12)].claim = none ∧ base.stations[(9 : Fin 12)].claim = some 7
      ∧ [Stage.done1, .claimed, .vacuumHold, .waitInlet].map (fun st => (lookup (stage7 st) 7).map (·.stage))
          = [some .done1, some .claimed, some .vacuumHold, some .waitInlet]
      ∧ boundVessel (stage7 .waitInlet) 7 = none
      ∧ ((lookup granted 7).map (·.stage) = some .waitInlet ∧ boundVessel granted 7 = some 0
          ∧ granted.vu.vessels[(0 : Fin 4)].state = .baseline)
      ∧ (boundVessel filling 7 = some 0 ∧ filling.vu.vessels[(0 : Fin 4)].state = .filling
          ∧ (lookup filling 7).map (·.stage) = some .evacuating)
      ∧ supFits .bar { node := 0 } base ∧ (supFits .bar { node := 13 } base ∧ 12 < 13)
      ∧ (supFits .bar { node := 1 } base ∧ nodeNumber 0 = 1) ∧ (supFits .bar { node := 12 } base ∧ nodeNumber 11 = 12) := by decide +kernel

/-- Entry 11 BARRED, with and without its claim. -/
def barred (claim : Option Tag) : State :=
  { base with stations := base.stations.set 10 { aStation .extract (some .c) claim with state := .barred } }

theorem witness_UnbarLiftsBar :
    (HeadIs (stn 8 .unbar { node := 11 } base) .unbar (frame .unbar 9 { node := 11 }) [] ∧ base.stations[(8 : Fin 12)].state = .joined)
      ∧ supFits .unbar { node := 0 } base ∧ supFits .unbar { node := 13 } base
      ∧ (supFits .unbar { node := 12 } base ∧ base.stations[(11 : Fin 12)].state ≠ .barred)
      ∧ ((barred none).stations[(10 : Fin 12)].state = .barred ∧ (barred none).stations[(10 : Fin 12)].claim = none)
      ∧ (barred (some 8)).stations[(10 : Fin 12)].claim ≠ none := by decide +kernel

/-- A claim of the first record; of one behind a held one; nothing to claim; and the refusals. -/
theorem witness_claimNext :
    (fits .claimNext 8 {} base ∧ base.line.state = .run ∧ base.stations[(8 : Fin 12)].claim = none ∧ base.stations[(8 : Fin 12)].lane = some .c
        ∧ base.zu.lanes.get .c = [] ++ 5 :: [6] ∧ (lookup base 5).map (·.holds) = some [])
      ∧ (fits .claimNext 8 {} (inLine .reconcile)) ∧ (fits .claimNext 9 {} base ∧ base.stations[(9 : Fin 12)].claim ≠ none)
      ∧ ({ base with zu.lanes := ⟨[], [], []⟩ } : State).zu.lanes.get .c = [] := by decide +kernel

/-- Fields of a creating Reclaim. -/
def newCabinet (cls : Nat) : Fields := { tag := 20, cabinet := some ⟨cls, 0, ⟨31, false, 0⟩⟩ }

theorem witness_reclaim :
    (fits .reclaim 9 { tag := 7 } base ∧ (lookup base 7).map (·.station) = some (some 9))
      ∧ (fits .reclaim 9 { tag := 5 } base ∧ (lookup base 5).map (·.station) = some none)
      ∧ (fits .reclaim 9 { tag := 20 } base ∧ lookup base 20 = none)
      ∧ (fits .reclaim 8 (newCabinet 2) (inLine .reconcile) ∧ base.stations[(8 : Fin 12)].claim = none)
      ∧ (fits .reclaim 9 (newCabinet 0) (inLine .reconcile) ∧ covers base.stations[(9 : Fin 12)].granted .h = true) := by decide +kernel

/-- Record 7 CLAIMED, with vessel 0 bound to it still. -/
def claimedBound : State :=
  { base with vu.vessels := base.vu.vessels.set 0 { base.vu.vessels[(0 : Fin 4)] with state := .settling, bound := some (7, 9) } }

/-- `base` in RECONCILE with the EXTRACT entry of node 9 granted nothing. -/
def uncovered : State :=
  { inLine .reconcile with stations := base.stations.set 8 { aStation .extract (some .c) none with granted := {} } }

/-- A creating Reclaim with a declared charge at its end, of a class not covered, with a value refused, and of a sender with a claim. -/
theorem witness_reclaim_creating :
    (fits .reclaim 8 { tag := 20, cabinet := some ⟨0, 1, ⟨0, true, 2000⟩⟩ } (inLine .reconcile)
        ∧ (checkCabinet 20 0 1 ⟨0, true, 2000⟩ none).map (fun c => (c.foamWeight, c.declaredCharge)) = some (1, some 2000))
      ∧ (fits .reclaim 8 { newCabinet 3 with doneMark := true } uncovered ∧ covers uncovered.stations[(8 : Fin 12)].granted .u = false)
      ∧ (fits .reclaim 8 { tag := 20, cabinet := some ⟨0, 2, ⟨5, false, 0⟩⟩ } (inLine .reconcile)
          ∧ checkCabinet 20 0 2 ⟨5, false, 0⟩ none = none)
      ∧ fits .reclaim 8 { tag := 20 } (inLine .reconcile)
      ∧ (fits .reclaim 9 (newCabinet 0) (inLine .reconcile) ∧ base.stations[(9 : Fin 12)].claim ≠ none) := by decide +kernel

theorem witness_ReclaimAndClassFound :
    (fits .classFound 9 { tag := 7, classCode := 0 } base ∧ base.stations[(9 : Fin 12)].claim = some 7 ∧ boundVessel base 7 = none
        ∧ (lookup base 7).map (fun r => (r.stage, r.transfers)) = some (.claimed, 0))
      ∧ fits .classFound 9 { tag := 7, classCode := 3 } base ∧ fits .classFound 9 { tag := 5, classCode := 2 } base
      ∧ (fits .classFound 9 { tag := 7, classCode := 2 } (stage7 .done1)) := by decide +kernel

/-- R67: code 3 is U, 4 none, and the value is checked before the tag. -/
theorem witness_class_found_code :
    (fits .classFound 9 { tag := 20, classCode := 3 } base ∧ fits .classFound 9 { tag := 7, classCode := 4 } base ∧ base.line.state ≠ .config)
      ∧ reply (after .classFound (stn 9 .classFound { tag := 20, classCode := 4 } base)) = some (.refused, some .badValue) := by
  decide +kernel

theorem witness_class_found_busy :
    fits .classFound 9 { tag := 7, classCode := 2 } claimedBound ∧ boundVessel claimedBound 7 ≠ none
      ∧ (lookup claimedBound 7).map (fun r => (r.stage, r.transfers)) = some (.claimed, 0) := by decide +kernel

/-- An Enrol frame: tag 20, the class byte given, 5 kg and a declared charge. -/
def enrolFrame (source tag declared : Nat) : Frame :=
  frame .enrol source {} [0, 0, 0, BitVec.ofNat 8 tag, 0x08, 0, BitVec.ofNat 8 (5 * 8 + declared / 256), BitVec.ofNat 8 declared]

/-- An Enrol of a new tag with charges of 1 and 2,000 g; of 0 and 2,001 g; of a known tag; into a full INTAKE. -/
theorem witness_EnrolCreatesRecord :
    (FromStation (headed (enrolFrame 1 20 1) base) .enrol 0 (enrolFrame 1 20 1) [] ∧ (enrolCabinet (enrolFrame 1 20 1)).isSome = true)
      ∧ (FromSupervisor (headed (enrolFrame 14 20 2000) base) .enrol (enrolFrame 14 20 2000) []
          ∧ (enrolCabinet (enrolFrame 14 20 2000)).isSome = true)
      ∧ enrolCabinet (enrolFrame 1 20 0) = none ∧ enrolCabinet (enrolFrame 1 20 2001) = none
      ∧ lookup base 4 ≠ none ∧ base.zu.intake.length < base.cfg.capIntake
      ∧ ({ base with cfg.capIntake := 1 } : State).cfg.capIntake ≤ base.zu.intake.length := by decide +kernel

/-- A station in RECONCILE and the supervisor in STOPPED; the override of 90 s with its mark and without it. -/
theorem witness_enrol_line_state :
    FromStation (headed (enrolFrame 1 20 1) (inLine .reconcile)) .enrol 0 (enrolFrame 1 20 1) []
      ∧ FromSupervisor (headed (enrolFrame 14 20 1) (inLine .stopped)) .enrol (enrolFrame 14 20 1) []
      ∧ reply (after .enrol (headed (enrolFrame 14 20 1) (inLine .stopped))) = some (.refused, some .lineState)
      ∧ [(0x4C : Byte), 0x48].map (fun b => (enrolCabinet (frame .enrol 1 {} [0, 0, 0x22, 0x8C, b, 0x5A, 0xA8, 0x78])).map (·.dwellOverride))
          = [some (some 90), some none] := by decide +kernel

/-- The clamps at their ends. -/
theorem witness_cabinet_clamps :
    [0, 1, 30, 31].map (fun w => (checkCabinet 20 0 0 ⟨w, false, 0⟩ none).map (·.foamWeight)) = [some 1, some 1, some 30, some 30]
      ∧ [9, 10, 600, 601].map (fun d => (checkCabinet 20 0 0 ⟨5, false, 0⟩ (some d)).bind (·.dwellOverride))
          = [some 10, some 10, some 600, some 600] := by decide +kernel

theorem witness_inletRequest :
    (fits .inletRequest 9 { tag := 7 } base ∧ base.stations[(9 : Fin 12)].claim = some 7 ∧ boundVessel base 7 = none
        ∧ (lookup base 7).map (fun r => (r.stage, r.holds, r.cls)) = some (.claimed, [], .h))
      ∧ fits .inletRequest 9 { tag := 5 } base ∧ (lookup (stage7 .done1) 7).map (·.stage) = some .done1
      ∧ (lookup (with7 fun r => { r with cls := .u }) 7).map (·.cls) = some .u
      ∧ boundVessel { base with vu.vessels := base.vu.vessels.set 0 { base.vu.vessels[(0 : Fin 4)] with bound := some (7, 9) } } 7 ≠ none := by
  decide +kernel

/-- One re-evacuation used of two, and two used. -/
theorem witness_InletRequestAndReEvacuate :
    (fits .reEvacuate 9 { tag := 7 } (with7 fun r => { r with holds := [aHold .leak], reevacUsed := 1 }) ∧ 1 < base.cfg.reevacMax
        ∧ (7 : Tag) ∉ base.zu.intake ∧ (7 : Tag) ∉ base.zu.buffer)
      ∧ (fits .reEvacuate 9 { tag := 7 } (with7 fun r => { r with holds := [aHold .leak], reevacUsed := 2 }) ∧ base.cfg.reevacMax ≤ 2) := by
  decide +kernel

/-- Outside RUN; another station's record; each later check of R99 failing with those before it met. -/
theorem witness_re_evacuate_refused :
    (fits .inletRequest 9 { tag := 7 } (inLine .reconcile) ∧ fits .reEvacuate 9 { tag := 7 } (inLine .reconcile))
      ∧ (fits .reEvacuate 9 { tag := 5 } base ∧ base.stations[(9 : Fin 12)].claim ≠ some 5)
      ∧ [stage7 .done1, base, with7 fun r => { r with holds := [aHold .leak, aHold .jam] },
          { claimedBound with records := (with7 fun r => { r with holds := [aHold .leak] }).records }].all
          (fun s => decide (fits .reEvacuate 9 { tag := 7 } s)) = true
      ∧ [stage7 .done1, base, with7 fun r => { r with holds := [aHold .leak, aHold .jam] },
          { claimedBound with records := (with7 fun r => { r with holds := [aHold .leak] }).records }].map
          (fun s => (reply (after .reEvacuate (stn 9 .reEvacuate { tag := 7 } s))).bind (·.2))
        = [some .badStage, some .badStage, some .notEligible, some .busy] := by decide +kernel

theorem witness_PressureReportCounts :
    (fits .pressure 9 { tag := 7, pressure := 200000 } (window 2400) ∧ (window 2400).progress[(9 : Fin 12)].state = .holdOpen)
      ∧ fits .pressure 9 { tag := 5 } base := by decide +kernel

theorem witness_ClaimNextAndRelease :
    fits .release 9 { tag := 7 } (inLine .reconcile) ∧ (fits .release 9 { tag := 7 } (stage7 .done1) ∧ base.zu.buffer.length < base.cfg.capBuffer) ∧ fits .release 9 { tag := 5 } base
      ∧ (fits .release 9 { tag := 7 } base ∧ (lookup base 7).map (·.stage) ≠ some .done1)
      ∧ (lookup (with7 fun r => { r with stage := .done1, holds := [aHold .leak] }) 7).map (·.holds) ≠ some []
      ∧ ({ base with cfg.capBuffer := 1 } : State).cfg.capBuffer ≤ base.zu.buffer.length := by decide +kernel

/-- A passage event without an expiry, with one delivered before it and one at the same millisecond, and one delivered after it. -/
theorem witness_LanePassageOrTimeoutEndsRelease :
    (passing.tu.passages.find? (·.gate == .lane .a) = some ⟨.lane .a, 999000, 999020, false⟩
        ∧ passing.zu.gates.get (.lane .a) = ⟨.released, true, some 4⟩ ∧ (passing.tu.passage.get (.lane .a)).expiry = none)
      ∧ (reached 999020 999019 = true ∧ reached 999020 999020 = true ∧ reached 999020 999021 = false)
      ∧ (({ passing with tu.passage := base.tu.passage.set (.lane .a) ⟨.idle, some 999019⟩ } : State).tu.passage.get (.lane .a)).expiry
          = some 999019
      ∧ (base.zu.gates.get (.lane .a)).state ≠ .released := by decide +kernel

/-- FEED_GATE with record 3 in passage. -/
def feeding : State := { base with zu.gates := base.zu.gates.set .feed ⟨.released, true, some 3⟩, tu.passages := [⟨.feed, 999000, 999020, false⟩], cs.phase := .loading }

theorem witness_FeedPassageAdmitsRecord :
    (feeding.tu.passages.find? (·.gate == .feed) = some ⟨.feed, 999000, 999020, false⟩ ∧ feeding.zu.gates.feed = ⟨.released, true, some 3⟩
        ∧ lookup feeding 3 ≠ none ∧ feeding.zu.buffer = [] ++ 3 :: [] ∧ feeding.zu.buffer.Nodup ∧ feeding.tu.passage.feed.expiry = none)
      ∧ ({ feeding with tu.passage := base.tu.passage.set .feed ⟨.idle, some 999019⟩ } : State).tu.passage.feed.expiry = some 999019
      ∧ base.zu.gates.feed.state ≠ .released := by decide +kernel

/-- `feeding` with record 4 a second candidate of BUFFER, and the passage channel expired before the passage event. -/
def overdueFeed : State :=
  { feeding with
    records := base.records.map fun r => if r.tag = 4 then { r with stage := .done1, verdict := .complete } else r
    zu := { feeding.zu with intake := [], buffer := [3, 4] }
    cs.batchList := []
    tu.passage := base.tu.passage.set .feed ⟨.idle, some 999000⟩ }

/-- The record in passage through FEED_GATE without JAM, and with it. -/
theorem witness_passage_timeout :
    (({ feeding with tu.passage := base.tu.passage.set .feed ⟨.idle, some 999000⟩ } : State).tu.passage.get .feed).expiry = some 999000
      ∧ feeding.zu.gates.get .feed = ⟨.released, true, some 3⟩
      ∧ (lookup feeding 3).map (fun r => (carries r .jam, r.stage)) = some (false, .done1)
      ∧ carries { aRecord 3 .done1 with holds := [aHold .jam] } .jam = true := by decide +kernel

/-- R47, R87: a passage event that waits at the expiry of FEED_GATE finds the gate IDLE, although record 4 could go next. -/
theorem witness_overdue_passage :
    (after (.passageTimeout .feed) overdueFeed).tu.passages = [⟨.feed, 999000, 999020, true⟩]
      ∧ (after (.passageTimeout .feed) overdueFeed).zu.gates.feed = ⟨.idle, false, none⟩
      ∧ (after (.passage .feed) (after (.passageTimeout .feed) overdueFeed)).zu.gates.feed.state = .blocked
      ∧ (after (.passageTimeout .feed) { overdueFeed with tu.passages := [] }).zu.gates.feed = ⟨.released, true, some 4⟩ := by decide +kernel

/-- Index 3 is the last gate and 4 none. -/
theorem witness_GateClearByState :
    (HeadIs (stn 8 .gateClear { index := 3 } base) .gateClear (frame .gateClear 9 { index := 3 }) [] ∧ base.stations[(8 : Fin 12)].state = .joined)
      ∧ supFits .gateClear { index := 3 } base ∧ supFits .gateClear { index := 0 } base ∧ (supFits .gateClear { index := 4 } base ∧ 4 ≤ 4) := by
  decide +kernel

/-- All three lanes are candidates: A and B are empty, so A is chosen, and C holds two. Then a lane that is full, one whose rating does not
cover, and class U with and without a SNIFF on the lane. -/
theorem witness_RoutingChoosesTheShortestLane :
    (base.line.state = .run ∧ [Lane.a, .b, .c].all (fun m => (base.zu.gates.get (.lane m)).state != .released) = true
        ∧ base.zu.intake = 4 :: [] ∧ (lookup base 4).map (·.holds) = some []
        ∧ [Lane.a, .b, .c].map (laneCandidate base .h) = [true, true, true]
        ∧ [Lane.a, .b, .c].map (fun l => (base.zu.lanes.get l).length) = [0, 0, 2])
      ∧ [3, 2].map (fun k => laneCandidate { base with cfg.capLanes := .all k } .h .c) = [true, false]
      ∧ [Class.h, .f, .n, .u].map (fun c => laneCandidate { base with cfg.ratings := .all .h } c .a) = [true, false, true, false]
      ∧ [Lane.a, .c].map (laneCandidate base .u) = [false, true]
      ∧ (inLine .stopped).line.state ≠ .run := by decide +kernel

/-- LOADING with record 3 as the only candidate, barred or not. -/
def loading (cls : FoamClass) (ff : Nat) : State :=
  { base with
    cs.phase := .loading
    cs.ffCount := ff
    records := base.records.map fun r => if r.tag = 3 then { r with foamClass := cls, skipCount := 3 } else r }

/-- LOADING with one candidate, barred, of skip_count 2, and the load wait expired or not. -/
def barredOnly (expired : Bool) : State :=
  { loading .f 2 with
    records := base.records.map fun r => if r.tag = 3 then { r with foamClass := .f, skipCount := 2 } else r
    cs.loadExpired := expired }

theorem witness_SelectionChoosesTheNextRecord :
    base.cs.phase ≠ .loading
      ∧ ((loading .h 2).line.state = .run ∧ (loading .h 2).zu.gates.feed.state = .idle
          ∧ (loading .h 2).zu.buffer.filter (isCandidate (loading .h 2)) = [] ++ 3 :: [] ∧ isBarred (loading .h 2) 3 = false)
      ∧ ((loading .f 2).zu.buffer.filter (isCandidate (loading .f 2)) = 3 :: [] ∧ isBarred (loading .f 2) 3 = true
          ∧ (lookup (loading .f 2) 3).map (·.skipCount) = some 3 ∧ (loading .f 2).cs.batchList ≠ [])
      ∧ (((lookup (barredOnly true) 3).map (·.skipCount) = some 2 ∧ isBarred (barredOnly true) 3 = true
            ∧ (barredOnly true).zu.buffer.filter (isCandidate (barredOnly true)) = [3])
          ∧ ((barredOnly true).cs.loadExpired = true ∧ (barredOnly true).cs.batchList ≠ []) ∧ (barredOnly false).cs.loadExpired = false)
      ∧ ((loading .h 2).zu.chamber.length < 4 ∧ ¬({ loading .h 2 with zu.chamber := [10, 11, 12, 13] } : State).zu.chamber.length < 4)
      ∧ ({ loading .h 2 with zu.buffer := [] } : State).zu.buffer.filter (isCandidate { loading .h 2 with zu.buffer := [] }) = [] := by
  decide +kernel

/-- Fields of a Config Write. -/
def write (i : ConfigItem) (v : Value) : Fields := { item := some (.config i), value := v }

/-- A write at the end of an item's range and one that breaks the pair rule; a dwell and an oil fraction; capacities in RUN, and in CONFIG at the
occupancy and below it, of 24 and of 25; a rating; no item and a recipe item. -/
theorem witness_ConfigWriteSetsLineAndZoneItems :
    allFit .configWrite [write (.line .holdEnd) (.number 300), write (.line .holdDelay) (.number 60), write (.dwell .h) (.number 9),
        write (.oilPm .f) (.number 201), write (.capacity .exit) (.number 8), write (.rating .b) (.rating .h),
        { item := some (.recipe true (.param .batchSize)) }, {}] base = true
      ∧ (((10 : Nat) : Int) = max 10 (min 9 600) ∧ ((200 : Nat) : Int) = max 0 (min 201 200)) ∧ base.line.state ≠ .config
      ∧ allFit .configWrite [write (.capacity (.lane .c)) (.number 1), write (.capacity (.lane .c)) (.number 2),
        write (.capacity .intake) (.number 16), write (.capacity .buffer) (.number 24), write (.capacity .buffer) (.number 25),
        write (.rating .b) (.rating .h)] (inLine .config) = true
      ∧ (inLine .config).zu.lanes.c.length = 2 := by decide +kernel

/-- Items of a vessel in service and of OFFLINE ones, a scale_sensor of 15 and 16; items of an enabled and of a disabled entry, an address of 119
and 120, thresholds of an O2 and of a SCALE entry; the enabled mark as it stands and changed. -/
theorem witness_ConfigWriteSetsVesselAndSensorItems :
    allFit .configWrite [write (.vessel 0 .settleS) (.number 5), write (.vessel 3 .capacityG) (.number 999),
        write (.vessel 3 .scaleSensor) (.number 16), write (.vessel 3 .scaleSensor) (.number 15), write (.vessel 1 .streamClass) (.stream .f),
        write (.sensor 12 .span) (.number 5), write (.sensor 15 .kind) (.kind .temp), write (.sensor 15 .address) (.number 119),
        write (.sensor 15 .address) (.number 120), write (.sensor 0 .assertLimit) (.number 240), write (.sensor 12 .deassertLimit) (.number 0),
        write (.sensor 15 .enabled) (.mark true), write (.sensor 12 .enabled) (.mark false), write (.sensor 12 .enabled) (.mark true)] base = true
      ∧ (base.vu.vessels[(0 : Fin 4)].state ≠ .offline ∧ base.vu.vessels[(3 : Fin 4)].state = .offline)
      ∧ ((1000 : Nat) : Int) = max 1000 (min 999 60000) ∧ (15 : Int) < 16
      ∧ (base.sn.sensors[(12 : Fin 16)].enabled = true ∧ base.sn.sensors[(15 : Fin 16)].enabled = false)
      ∧ base.sn.sensors[(0 : Fin 16)].kind = .o2 ∧ base.sn.sensors[(12 : Fin 16)].kind = .scale := by decide +kernel

/-- Config Read of an item of each table and of either recipe; items that name nothing. Zone Read of the last position and the one after it, of
a station position with and without an EXTRACT entry, of zone code 7 and 8. Vessel indexes 3 and 4. -/
theorem witness_ReportsChangeNothing :
    allFit .configRead ([.config (.line .riseLimit), .config (.dwell .f), .config (.capacity .exit), .config (.vessel 3 .scaleSensor),
        .config (.vessel 4 .fillPm), .config (.sensor 15 .span), .config (.sensor 16 .span), .status .lineState,
        .recipe true (.param .kp), .recipe false (.sensorName .lel2), .recipe true (.pattern .idle (some .vent)),
        .recipe true (.pattern .safe (some .vent)), .recipe true (.pattern .idle none)].map fun i => { item := some i }) base = true
      ∧ supFits .configRead {} base
      ∧ allFit .zoneRead [{ zoneCode := 5, position := 0 }, { zoneCode := 5, position := 11 }, { zoneCode := 5, position := 12 },
        { zoneCode := 4, node := 10 }, { zoneCode := 4, node := 1 }, { zoneCode := 7 }, { zoneCode := 8 }] base = true
      ∧ (capacity base .buffer = 12 ∧ capacity base (.station 9) = 1)
      ∧ (placeCode (.station 9) = 4 ∧ placeCode .exit = 7 ∧ placeCode .buffer = 5)
      ∧ (base.stations[(9 : Fin 12)].kind = some .extract ∧ base.stations[(0 : Fin 12)].kind ≠ some .extract)
      ∧ allFit .vesselStatus [{ index := 3 }, { index := 4 }] base = true ∧ supFits .chamberStatus {} base := by decide +kernel

/-- `base` with vessel 0 bound to record 7 in a state. -/
def bound7 (x : VesselState) : State :=
  { stage7 .vacuumHold with
    vu.vessels := base.vu.vessels.set 0 { base.vu.vessels[(0 : Fin 4)] with state := x, bound := some (7, 9), tareG := 1000, baselineGross := some 5000 }
    progress := base.progress.set 9 { Progress.initial with state := .passWait, tag := some 7 } }

/-- R49: a zone's last record, and none behind it. R123: the ends of the fill; a settle time left, and none of a vessel that is not SETTLING. -/
theorem witness_slots_and_fill :
    [0, 1, 2].map (zoneSlot base (.lane .c)) = [some ⟨5, .routed, false⟩, some ⟨6, .routed, false⟩, none]
      ∧ zoneSlot base (.station 10) 0 = some ⟨8, .claimed, true⟩
      ∧ [some (-1), some 0, some 24000, some 59999, some 60000, none].map
          (fun x => fillPerMille { Vessel.initial .h 12 with netG := x }) = [0, 0, 800, 1999, 1999, 0]
      ∧ [VesselState.settling, .final].map (fun x => settleRemaining { bound7 x with tu.settle := base.tu.settle.set 0 ⟨.running 1000007, none⟩ } 0)
          = [7, 0] := by decide +kernel

theorem witness_record_read :
    (supFits .recordRead { tag := 7 } base ∧ lookup base 7 ≠ none ∧ placeOf base 7 = some (.station 9))
      ∧ (supFits .recordRead { tag := 20 } base ∧ lookup base 20 = none) := by decide +kernel

theorem witness_RecordReadAndStatusReads :
    supFits .stationStatus { node := 0 } base ∧ supFits .stationStatus { node := 13 } base ∧ supFits .stationStatus { node := 12 } base
      ∧ supFits .sensorStatus { index := 15 } base ∧ supFits .sensorStatus { index := 16 } base := by decide +kernel

/-- Fields of a Recipe Write. -/
def recipe (i : RecipeItem) (v : Value) : Fields := { recipeItem := some i, value := v }

/-- `base` with a staged recipe. -/
def stagedAs (r : Recipe) : State := { base with cs.staged := r }

/-- No item; a parameter and one without a number; the ranges of purge_min and purge_max not empty, and the write that raises purge_max; sensor
names at 0, 15 and 16 and none; a pattern output, PWM where it may stand and where not, SAFE and an unknown output. -/
theorem witness_RecipeWriteAndCommit :
    (supFits .recipeWrite {} base
      ∧ allFit .recipeWrite [recipe (.param .kp) .absent, recipe (.param .purgeMin) (.number 180), recipe (.sensorName .o2) (.number 15),
        recipe (.sensorName .lel2) (.number 0), recipe (.sensorName .lel2) .absent, recipe (.sensorName .trap) (.number 16),
        recipe (.sensorName .trap) .absent, recipe (.pattern .idle (some .vent)) (.drive .on),
        recipe (.pattern .aborted (some .n2Prop)) (.drive .pwm), recipe (.pattern .idle (some .vent)) (.drive .pwm),
        recipe (.pattern .safe (some .vent)) (.drive .on), recipe (.pattern .idle none) (.drive .on)] base = true)
      ∧ (paramRange base.cs.staged .purgeMin).1 ≤ (paramRange base.cs.staged .purgeMin).2
      ∧ (paramRange base.cs.staged .purgeMax).1 ≤ (paramRange base.cs.staged .purgeMax).2
      ∧ ((base.cs.staged.purgeMax : Int) ≤ 180 ∧ ¬(base.cs.staged.purgeMax : Int) ≤ 179)
      ∧ supFits .recipeCommit {} base := by decide +kernel

/-- R159: the defaults pass; each condition fails alone, at its boundary value. -/
theorem witness_commit_conditions :
    (after .recipeCommit (sup .recipeCommit {} base)).cs.commitMark = true
      ∧ [{ Recipe.initial with lelPause := 400 }, { Recipe.initial with lelResume := 250 }, { Recipe.initial with o2Abort := 40 },
          { Recipe.initial with purgeTarget := 41 },
          { Recipe.initial with patterns := { Recipe.initial.patterns with idle := { Recipe.initial.patterns.idle with shredDrive := true } } },
          { Recipe.initial with patterns := { Recipe.initial.patterns with aborted := { Recipe.initial.patterns.aborted with doorLock := false } } }].map
          (fun r => result (after .recipeCommit (sup .recipeCommit {} (stagedAs r))))
        = [some (.commitFailed .lelOrder), some (.commitFailed .lelOrder), some (.commitFailed .o2Order), some (.commitFailed .o2Order),
            some (.commitFailed .shredDriveOff), some (.commitFailed .doorLockOn)] := by decide +kernel

theorem witness_LineStartOpenAndResume :
    (supFits .lineStart {} (inLine .config) ∧ (inLine .config).line.estopActive = false) ∧ supFits .lineStart {} base
      ∧ supFits .lineOpen {} (inLine .reconcile) ∧ supFits .lineOpen {} base ∧ supFits .lineResume {} (inLine .stopped)
      ∧ supFits .lineResume {} { inLine .stopped with line.estopActive := true }
      ∧ ({ inLine .reconcile with tu.reconcile := ⟨.idle, some 5⟩ } : State).tu.reconcile.expiry = some 5 := by decide +kernel

/-- A stopped window, and an entry that is none; SAFE with and without a batch; IDLE with an empty and with an occupied CHAMBER; the batch
number at its end. -/
theorem witness_RunRestartsWindowsAndChamber :
    (({ base with progress := base.progress.set 9 { Progress.initial with state := .holdStopped, tag := some 7 } } : State).progress[(9 : Fin 12)].state
        = .holdStopped ∧ base.progress[(9 : Fin 12)].state ≠ .holdStopped)
      ∧ ({ base with cs.phase := .safe, cs.batchList := [] } : State).cs.batchList = [] ∧ base.cs.batchList ≠ []
      ∧ base.zu.chamber ≠ [] ∧ ({ base with zu.chamber := [] } : State).zu.chamber = []
      ∧ (chamberRun { base with cs.phase := .idle, cs.batchCounter := 65535 }).cs.batchCounter = 1 := by decide +kernel

/-- A DWELL, an open window and neither; a vessel in BASELINE and one FILLING, both bound, and an IDLE one; a chamber with a PENDING baseline. -/
theorem witness_StopActsOnTransfersAndChamber :
    (filling.progress[(9 : Fin 12)].state = .dwell ∧ filling.progress[(9 : Fin 12)].tag = some 7)
      ∧ (window 2400).progress[(9 : Fin 12)].state = .holdOpen ∧ base.progress[(9 : Fin 12)].state = .none
      ∧ (granted.vu.vessels[(0 : Fin 4)].state = .baseline ∧ granted.vu.vessels[(0 : Fin 4)].bound = some (7, 9))
      ∧ (filling.vu.vessels[(0 : Fin 4)].state = .filling ∧ filling.vu.vessels[(0 : Fin 4)].bound = some (7, 9))
      ∧ base.vu.vessels[(0 : Fin 4)].state = .idle
      ∧ (chamberStopped { base with cs.phase := .condensing, cs.baseline := .pending }).cs.baseline = .none := by decide +kernel

/-- A candidate that has held for exactly its filter_time. -/
theorem witness_EmergencyStopAccepted :
    (⟨true, 999980, false, some ⟨999980, 20⟩⟩ : InputFilter).candidate = some ⟨999980, 20⟩ ∧ reached base.clock (999980 + msec 20) = true
      ∧ reached base.clock (999981 + msec 20) = false ∧ base.line.state = .run ∧ (inLine .config).line.state ≠ .run
      ∧ ((passing.zu.gates.get (.lane .a)).state = .released ∧ (passing.zu.gates.get .feed).state ≠ .released) := by decide +kernel

/-- Entry 0 is the lowest enabled; then none is. -/
theorem witness_LineResetReturnsToConfig :
    supFits .lineReset {} base
      ∧ (after .lineReset (sup .lineReset {} base)).sn.inFlight = some ⟨0, 8, 0, false⟩
      ∧ (after .lineReset (sup .lineReset {} { base with sn := State.reset.sn })).sn.inFlight = none := by decide +kernel

/-- Fields of an Adopt of tag 20. -/
def adopt (zone stage node : Nat) : Fields := { tag := 20, zoneCode := zone, stageCode := stage, node := node }

/-- Each zone; a position without a claim, with one, and one that does not cover; each refused value; weight and charge, and none. -/
theorem witness_AdoptPlacesRecord :
    supFits .adopt {} base
      ∧ allFit .adopt ([adopt 0 0 0, adopt 1 1 0, adopt 3 1 0, adopt 4 2 9, adopt 4 6 9, adopt 4 2 10, adopt 5 6 0, adopt 6 6 0, adopt 6 7 0,
          adopt 7 8 0] ++ [adopt 0 9 0, adopt 8 6 0, adopt 5 3 0, adopt 5 4 0, adopt 5 5 0, adopt 6 2 0, adopt 4 2 1, adopt 4 2 0, adopt 4 1 9,
          { adopt 5 6 0 with charge := some ⟨31, true, 2000⟩ }, { adopt 5 6 0 with tag := 3 }]) (inLine .reconcile) = true
      ∧ (stageCode .routed = 1 ∧ placeCode (.lane .c) = 3 ∧ placeCode (.station 8) = 4 ∧ nodeNumber 8 = 9)
      ∧ (base.stations[(8 : Fin 12)].kind = some .extract ∧ base.stations[(8 : Fin 12)].claim = none
          ∧ base.stations[(9 : Fin 12)].claim ≠ none ∧ base.stations[(0 : Fin 12)].kind ≠ some .extract)
      ∧ (covers base.stations[(8 : Fin 12)].granted .h = true ∧ covers uncovered.stations[(8 : Fin 12)].granted .h = false)
      ∧ lookup base 20 = none ∧ lookup base 3 ≠ none := by decide +kernel

/-- R206: INTAKE full and with one place; a foam F into CHAMBER at an f_foam_max of 0 and of 1; one more into CHAMBER at a batch_size of 1
and of 2. -/
theorem test_adopt_room :
    [1, 2].map (fun k => reply (after .adopt (sup .adopt (adopt 0 0 0) { inLine .reconcile with cfg.capIntake := k })))
        = [some (.refused, some .zoneFull), some (.done, none)]
      ∧ [0, 1].map (fun k => reply (after .adopt (sup .adopt { adopt 6 6 0 with foamCode := 1 }
          { inLine .reconcile with cs.working.fFoamMax := k }))) = [some (.refused, some .notEligible), some (.done, none)]
      ∧ [1, 2].map (fun k => reply (after .adopt (sup .adopt (adopt 6 6 0) { inLine .reconcile with cs.working.batchSize := k })))
        = [some (.refused, some .zoneFull), some (.done, none)] := by decide +kernel

/-- R206: at a position that holds a claim Adopt is BUSY; at one that does not cover the class the record carries CLASS_CONFLICT. -/
theorem test_adopt_station :
    reply (after .adopt (sup .adopt (adopt 4 2 10) (inLine .reconcile))) = some (.refused, some .busy)
      ∧ tagCarries (after .adopt (sup .adopt (adopt 4 2 9) uncovered)) 20 .classConflict = true := by decide +kernel

theorem witness_HoldRaisesManual :
    (supFits .hold { tag := 4 } passing ∧ inPassage passing 4 = true) ∧ (supFits .hold { tag := 5 } base ∧ inPassage base 5 = false)
      ∧ (supFits .hold { tag := 7 } (with7 fun r => { r with holds := [aHold .manual] }))
      ∧ (supFits .hold { tag := 7 } (stage7 .waitInlet) ∧ boundVessel (stage7 .waitInlet) 7 = none)
      ∧ (supFits .hold { tag := 7 } granted ∧ boundVessel granted 7 = some 0 ∧ granted.vu.vessels[(0 : Fin 4)].state = .baseline) := by
  decide +kernel

/-- Reason codes 7 and 8; a reason not carried; STATION_LOST with a free place, a full lane, at a JOINED station and off a station. -/
theorem witness_ClearHoldRemovesReason :
    allFit .clearHold [{ tag := 8, reasonCode := 6 }, { tag := 8, reasonCode := 7 }, { tag := 8, reasonCode := 8 }, { tag := 20, reasonCode := 7 },
        { tag := 5, reasonCode := 1 }, { tag := 8, reasonCode := 1 }] base = true
      ∧ holdReasonOfCode 7 = some .manual
      ∧ (base.stations[(10 : Fin 12)].state ≠ .joined ∧ base.stations[(10 : Fin 12)].lane = some .c ∧ boundVessel base 8 = none
          ∧ hasFreePlace base (.lane .c) = true ∧ placeOf base 8 = some (.station 10))
      ∧ supFits .clearHold { tag := 7, reasonCode := 1 } (with7 fun r => { r with holds := [aHold .stationLost] })
      ∧ (placeOf base 7 = some (.station 9) ∧ base.stations[(9 : Fin 12)].state = .joined ∧ placeOf base 5 = some (.lane .c))
      ∧ hasFreePlace { base with cfg.capLanes := .all 2 } (.lane .c) = false := by decide +kernel

/-- JAM; CLASS_CONFLICT covered and not covered; LEAK of an unbound record, of a bound one, and at another stage. -/
theorem witness_clear_other_reasons :
    supFits .clearHold { tag := 7, reasonCode := 0 } (with7 fun r => { r with holds := [aHold .jam] })
      ∧ supFits .clearHold { tag := 7, reasonCode := 2 } (with7 fun r => { r with holds := [aHold .classConflict] })
      ∧ (covers base.stations[(9 : Fin 12)].granted .h = true ∧ covers { h := false } .h = false)
      ∧ supFits .clearHold { tag := 7, reasonCode := 3 } (with7 fun r => { r with holds := [aHold .leak], stage := .vacuumHold })
      ∧ (boundVessel base 7 = none ∧ boundVessel filling 7 ≠ none ∧ (lookup base 7).map (·.station) = some (some 9))
      ∧ supFits .clearHold { tag := 7, reasonCode := 3 } (with7 fun r => { r with holds := [aHold .leak], stage := .done1 }) := by
  decide +kernel

theorem witness_dispose :
    (supFits .dispose { tag := 2 } base ∧ placeOf base 2 = some .chamber) ∧ (supFits .dispose { tag := 1 } base ∧ placeOf base 1 = some .exit)
      ∧ (supFits .dispose { tag := 4 } passing ∧ inPassage passing 4 = true)
      ∧ (supFits .dispose { tag := 5 } base ∧ placeOf base 5 = some (.lane .c) ∧ base.zu.exit.length < base.cfg.capExit)
      ∧ (supFits .dispose { tag := 7 } base ∧ placeOf base 7 = some (.station 9) ∧ inPassage base 7 = false ∧ boundVessel base 7 = none)
      ∧ ({ base with cfg.capExit := 1 } : State).cfg.capExit ≤ base.zu.exit.length := by decide +kernel

/-- The head of INTAKE, a record behind it, and one in BUFFER. -/
theorem witness_dispose_intake_and_buffer :
    (supFits .dispose { tag := 4 } base ∧ placeOf base 4 = some .intake ∧ base.zu.intake.head? = some 4 ∧ inPassage base 4 = false)
      ∧ (supFits .dispose { tag := 4 } { base with zu.intake := [9, 4] }
          ∧ ({ base with zu.intake := [9, 4] } : State).zu.intake.head? ≠ some 4)
      ∧ (supFits .dispose { tag := 3 } base ∧ placeOf base 3 = some .buffer ∧ inPassage base 3 = false) := by decide +kernel

/-- Seconds of 0, 1, 10, 600 and 601. -/
theorem witness_DisposeRetireAndOverride :
    (supFits .retire { tag := 1 } base ∧ placeOf base 1 = some .exit) ∧ (supFits .retire { tag := 5 } base ∧ placeOf base 5 ≠ some .exit)
      ∧ supFits .override { tag := 3 } base ∧ supFits .override { tag := 5 } base ∧ supFits .override { tag := 5, seconds := 601 } base
      ∧ [0, 1, 10, 600, 601].map (fun d => overrideOf d) = [none, some 10, some 10, some 600, some 600] := by decide +kernel

/-- Index 3 is the last vessel, 4 none; tares of 262,140 and 262,141 g. -/
theorem witness_VesselOnlineTaken :
    supFits .vesselOnline { index := 4 } base ∧ supFits .vesselOnline { index := 0 } base
      ∧ (supFits .vesselOnline { index := 1, tare := 262140 } { base with vu.vessels := base.vu.vessels.set 1 (.initial .h 3) }
          ∧ base.sn.sensors[(3 : Fin 16)].enabled = true ∧ base.sn.sensors[(3 : Fin 16)].kind = .scale)
      ∧ (supFits .vesselOnline { index := 3, tare := 262141 } base ∧ 262140 < 262141)
      ∧ (({ base with vu.vessels := base.vu.vessels.set 1 (.initial .h 12) } : State).vu.vessels[(1 : Fin 4)].scaleSensor
          = base.vu.vessels[(0 : Fin 4)].scaleSensor) := by decide +kernel

theorem witness_VesselOfflineByState :
    (HeadIs (stn 8 .vesselOffline {} base) .vesselOffline (frame .vesselOffline 9 {}) [] ∧ base.stations[(8 : Fin 12)].state = .joined)
      ∧ supFits .vesselOffline { index := 4 } base ∧ (supFits .vesselOffline { index := 0 } base ∧ base.vu.vessels[(0 : Fin 4)].state = .idle)
      ∧ (supFits .vesselOffline { index := 3 } base ∧ base.vu.vessels[(3 : Fin 4)].state = .offline)
      ∧ (supFits .vesselOffline { index := 0 } filling ∧ filling.vu.vessels[(0 : Fin 4)].state = .filling) := by decide +kernel

/-- R90: a held record in WAIT_INLET is passed over, and its entry stays in the queue. -/
theorem witness_held_not_granted :
    (grantAttempt { with7 (fun r => { r with stage := .waitInlet, holds := [aHold .manual] }) with vu.inqH := [⟨9, 7⟩, ⟨8, 5⟩] } .h).vu.inqH
        = [⟨9, 7⟩]
      ∧ (grantAttempt { with7 (fun r => { r with stage := .waitInlet, holds := [aHold .manual] }) with vu.inqH := [⟨9, 7⟩, ⟨8, 5⟩] }
          .h).vu.vessels[(0 : Fin 4)].bound = some (5, 8) := by decide +kernel

theorem witness_GrantGoesToOldestEntry :
    (base.line.state = .run ∧ base.vu.vessels[(0 : Fin 4)].state = .idle ∧ base.vu.vessels[(0 : Fin 4)].streamClass = .h
        ∧ inletQueue { base with vu.inqH := [⟨9, 7⟩] } .h = [] ++ ⟨9, 7⟩ :: [] ∧ boundVessel base 7 = none)
      ∧ (inLine .stopped).line.state ≠ .run ∧ inletQueue base .h = [] := by decide +kernel

/-- A window that closes without a report. -/
def noReport : State := { window 0 with progress := base.progress.set 9 ⟨.holdOpen, some 7, some 969900, some ⟨5, 30, 500⟩, none, none, 0⟩ }

theorem witness_EvacuationTimersAct :
    (filling.tu.station[(9 : Fin 12)] = ⟨.idle, some 999000, none, none⟩ ∧ filling.progress[(9 : Fin 12)].state = .dwell
        ∧ filling.progress[(9 : Fin 12)].tag = some 7 ∧ boundVessel filling 7 = some 0)
      ∧ ((window 2900).tu.station[(9 : Fin 12)].openEv = none ∧ (window 2900).tu.station[(9 : Fin 12)].closeEv = some 999900
          ∧ (window 2900).progress[(9 : Fin 12)].state = .holdOpen ∧ 0 < (window 2900).progress[(9 : Fin 12)].reports)
      ∧ ((⟨.opened 5, none, some 4, none⟩ : StationChannel).openEv = some 4)
      ∧ (noReport.tu.station[(9 : Fin 12)].closeEv = some 999900 ∧ noReport.progress[(9 : Fin 12)].reports = 0
          ∧ noReport.progress[(9 : Fin 12)].baseline = none ∧ noReport.progress[(9 : Fin 12)].last = none)
      ∧ (lookup base 7).map (·.station) = some (some 9) ∧ (lookup base 5).map (·.station) = some none := by decide +kernel

/-- A net one below the fill limit of 24,000 and at it, and no usable sample. -/
theorem witness_BaselineSampleOpensTheValve :
    (granted.vu.vessels[(0 : Fin 4)].state = .baseline ∧ granted.vu.vessels[(0 : Fin 4)].bound = some (7, 9) ∧ lookup granted 7 ≠ none)
      ∧ fillLimit (bound7 .baseline).vu.vessels[(0 : Fin 4)] = 24000
      ∧ [24999, 25000].map (fun g => (takeAnswer (bound7 .baseline) (.vessel 0) (some g)).vu.vessels[(0 : Fin 4)].state) = [.filling, .full]
      ∧ (takeAnswer (bound7 .baseline) (.vessel 0) none).vu.vessels[(0 : Fin 4)].state = .fault := by decide +kernel

/-- A test passed and one still open; a delta of 300 g, one of −21 g, and no usable sample. -/
theorem witness_FinalSampleBooksTheTransfer :
    ((bound7 .final).vu.vessels[(0 : Fin 4)].state = .final ∧ (bound7 .final).vu.vessels[(0 : Fin 4)].bound = some (7, 9)
        ∧ (bound7 .final).vu.vessels[(0 : Fin 4)].baselineGross = some 5000 ∧ (lookup (bound7 .final) 7).map (·.stage) = some .vacuumHold
        ∧ (bound7 .final).progress[(9 : Fin 12)].state = .passWait ∧ (bound7 .final).progress[(9 : Fin 12)].tag = some 7)
      ∧ ({ bound7 .final with progress := base.progress.set 9 { Progress.initial with state := .holdWait, tag := some 7 } } : State).progress[(9 : Fin 12)].state
          ≠ .passWait
      ∧ (lookup (takeAnswer (bound7 .final) (.vessel 0) (some 5300)) 7).map (fun r => (r.stage, r.recovered, r.verdict)) = some (.done1, 291, .complete)
      ∧ tagCarries (takeAnswer (bound7 .final) (.vessel 0) (some 4979)) 7 .scaleFault = true
      ∧ tagCarries (takeAnswer (bound7 .final) (.vessel 0) (some 4980)) 7 .scaleFault = false
      ∧ (takeAnswer (bound7 .final) (.vessel 0) none).vu.vessels[(0 : Fin 4)].faultCause = some .finalUnusable := by decide +kernel

/-- CONDENSING with a baseline PENDING, and at WEIGH with one PRESENT and with none. -/
theorem witness_CondensateSampleBooksTheFoam :
    base.cs.phase ≠ .condensing ∧ (expiring .condensing).cs.phase = .condensing
      ∧ ({ expiring .condensing with cs.baseline := .pending } : State).cs.baseline = .pending
      ∧ ({ expiring .condensing with cs.step := .weigh } : State).cs.step = .weigh
      ∧ (base.cs.batchList.Nodup ∧ ({ expiring .condensing with cs.baseline := .present 3410 } : State).cs.baseline = .present 3410)
      ∧ (lookup (takeAnswer { expiring .condensing with cs.step := .weigh, cs.baseline := .present 3410 } .condensate (some 4647)) 2).map
          (·.foamShare) = some (some 1237) := by decide +kernel

theorem witness_SettleAndImmediateAnswer :
    ({ base with tu.settle := base.tu.settle.set 0 ⟨.idle, some 5⟩ } : State).tu.settle[(0 : Fin 4)].expiry = some 5
      ∧ ({ base.vu.vessels[(0 : Fin 4)] with state := .settling } : Vessel).state = .settling
      ∧ Requester.vessel 0 ∈ [Requester.vessel 0, .condensate] ∧ Requester.vessel 0 ∉ base.sn.immediate := by decide +kernel

/-- Weights with a sum above 0; oil fractions of 0 and 1,000; yields at the ends of the band. -/
theorem witness_BookingArithmetic :
    0 < [7, 9, 5].sum ∧ (oilPm { ConfigTables.initial with oilPmH := 0 } .h = 0) ∧ (oilPm { ConfigTables.initial with oilPmF := 1000 } .f = 1000)
      ∧ [849, 850, 1150, 1151].map (fun y => verdictOf ConfigTables.initial y (some 1000)) = [.short, .complete, .complete, .over] := by
  decide +kernel

theorem witness_SlotPollsTheNextEntry :
    (base.sn.inFlight = none ∧ reached base.clock base.sn.slotDue = true)
      ∧ ((0 : Fin 16).val = (base.sn.lastPolled.val + 0 + 1) % 16 ∧ base.sn.sensors[(0 : Fin 16)].enabled = true)
      ∧ (List.finRange 16).all (fun i => !State.reset.sn.sensors[i].enabled) = true
      ∧ reached (base.sn.slotDue - 1) base.sn.slotDue = false := by decide +kernel

/-- Both transactions failed, and the first good; 1 and 2 failures before; entries in and out of FAULT. -/
theorem witness_PollEndJudgesTheSample :
    ({ base with sn.inFlight := some ⟨0, 8, 0, false⟩ } : State).sn.inFlight = some ⟨0, 8, 0, false⟩ ∧ pollWord (.nack 0) (.bytes 0 0xB4 0xFB) = none
      ∧ pollWord (.bytes 0 0xB4 0xFA) (.nack 0) = some 180 ∧ (aSensor .o2 30).state ≠ .fault
      ∧ ({ aSensor .o2 30 with state := .fault } : Sensor).state = .fault ∧ (1 < 2 ∧ 2 ≤ 2) := by decide +kernel

/-- `base` in a phase with the door closed and the LEL and O2 entries at values. -/
def judged (p : Phase) (l o : Int) : State :=
  { base with
    cs.phase := p, tu.door.filtered := true
    sn.sensors := (base.sn.sensors.set 0 (aSensor .o2 o)).set 1 (aSensor .lel l) }

/-- LEL at lel_pause, lel_abort and lel_resume and one beside each, O2 at o2_abort and o2_shred_max and one above; failed sensors, the door open. -/
theorem witness_ChamberJudgesGasTrapAndDoor :
    (gasFailed (judged .shredding 180 30) = false ∧ effectiveLel (judged .shredding 180 30) = some 180
        ∧ latestO2 (judged .shredding 180 30) = some 30)
      ∧ [(249, 30), (250, 30), (400, 30), (180, 40), (180, 41), (180, 60)].map (fun (l, o) => (judgeShredding (judged .shredding l o) false).cs.phase)
          = [.shredding, .paused, .aborted, .shredding, .paused, .aborted]
      ∧ [(150, 40), (151, 40), (150, 41)].map (fun (l, o) => (judgePaused (judged .paused l o) false).cs.phase) = [.shredding, .paused, .paused]
      ∧ (gasFailed { base with sn.sensors := base.sn.sensors.set 1 (aSensor .o2 0) } = true ∧ base.tu.door.filtered = false)
      ∧ (base.cs.working.lel1Sensor = 1 ∧ base.cs.working.o2Sensor = 0 ∧ base.cs.working.trapSensor = 2)
      ∧ [-350, -349].map (fun v => trapCold { base with sn.sensors := base.sn.sensors.set 2 (aSensor .temp v) }) = [true, false] := by decide +kernel

theorem witness_PhaseEntryDrivesThePattern :
    Recipe.initial.dutyMin ≤ 256 ∧ Recipe.initial.patterns.shredding.n2Prop = .pwm ∧ Recipe.initial.patterns.idle.n2Prop = .off
      ∧ base.tu.pwm.current = none := by decide +kernel

/-- The batch of `base`, its record, the line in and out of RUN, and the condensate entry disabled and enabled. -/
theorem witness_ChamberPhasesBeginAndEnd :
    (base.cs.batchList = [2] ∧ lookup base 2 ≠ none) ∧ tagCarries (enterAborted base .pauseMax) 2 .chamberAbort = true
      ∧ (endUnloading (expiring .unloading)).cs.phase = .loading ∧ (endUnloading { expiring .unloading with line := ⟨.stopped, false, false⟩ }).cs.phase = .idle
      ∧ (enterCondensing base .shredTime).sn.requests = [⟨.condensate, 3⟩]
      ∧ (enterCondensing { base with sn.sensors := base.sn.sensors.set 3 .initial } .shredTime).sn.immediate = [.condensate] := by decide +kernel

theorem witness_RestartAndClearLeaveAborted :
    (supFits .chamberRestart {} { base with tu.door.filtered := true } ∧ base.cs.phase = .aborted) ∧ supFits .chamberRestart {} (inLine .stopped)
      ∧ (supFits .chamberRestart {} base ∧ base.tu.door.filtered = false) ∧ supFits .chamberClear {} base
      ∧ supFits .chamberClear {} (inLine .stopped) ∧ supFits .chamberClear {} (expiring .sealing) := by decide +kernel

/-- The purge just done: O2 30 at a purge_target of 30. -/
theorem witness_ChamberExpiriesActByPhase :
    (expiring .purging).tu.phase.expiry = some 999000 ∧ (expiring .purging).cs.purgeMinDone = false
      ∧ (gasFailed (expiring .purging) = false ∧ latestO2 (expiring .purging) = some 30 ∧ (30 : Int) ≤ base.cs.working.purgeTarget)
      ∧ latestO2 { expiring .purging with sn.sensors := base.sn.sensors.set 0 (aSensor .o2 31) } = some 31
      ∧ ({ expiring .condensing with cs.step := .settle } : State).cs.baseline ≠ .pending
      ∧ ({ base with tu.pause := ⟨.idle, some 5⟩ } : State).tu.pause.expiry = some 5
      ∧ ({ base with tu.load := ⟨.idle, some 5⟩ } : State).tu.load.expiry = some 5 := by decide +kernel

theorem witness_PwmPeriodAppliesTheDuty :
    base.tu.pwm.current = none ∧ reached base.clock (999900 + msec 100) = true ∧ reached base.clock (999901 + msec 100) = false
      ∧ (25 < 100 ∧ reached base.clock (999975 + msec 25) = true ∧ reached base.clock (999976 + msec 25) = false) := by decide +kernel

/-- A raw change of each input, to the level it has and to the other; a pulse that ends before its filter_time; a candidate just held and
just not. -/
theorem witness_InputsAreFilteredAndCaptured :
    (base.tu.door.candidate = none ∧ true ≠ base.tu.door.raw ∧ true ≠ base.tu.door.filtered)
      ∧ (base.tu.estop.candidate = none ∧ true ≠ base.tu.estop.raw ∧ true ≠ base.tu.estop.filtered)
      ∧ ((base.tu.barriers.get .feed).candidate = none ∧ true ≠ (base.tu.barriers.get .feed).raw
          ∧ true ≠ (base.tu.barriers.get .feed).filtered)
      ∧ (⟨true, 999981, false, some ⟨999981, 20⟩⟩ : InputFilter).raw ≠ (⟨true, 999981, false, some ⟨999981, 20⟩⟩ : InputFilter).filtered
      ∧ reached base.clock (999981 + msec 20) = false ∧ reached base.clock (999980 + msec 20) = true := by decide +kernel

/-- R83: the candidate of the emergency stop is formed, and a pulse that ends a millisecond too early is dropped. -/
theorem test_estop_filter :
    (after (.rawInputChange .estop true) base).tu.estop = ⟨true, 1000000, false, some ⟨1000000, 20⟩⟩
      ∧ (after (.rawInputChange .estop false) { base with tu.estop := ⟨true, 999981, false, some ⟨999981, 20⟩⟩ }).tu.estop
        = ⟨false, 1000000, false, none⟩ := by decide +kernel

/-! ## Witnesses of the invariants: `base` satisfies each and takes a step -/

theorem witness_step : step base = .next (tick base) := rfl

theorem witness_QueuesStayBounded : QueuesBounded base := by unfold QueuesBounded; decide +kernel

theorem witness_ValvesAndGatesFollowTheirStates : ValvesFollowState base ∧ GatesAgree base := by
  refine ⟨by unfold ValvesFollowState; decide +kernel, fun g => ?_⟩
  rcases g with (_ | _ | _) | _ <;> decide +kernel

theorem witness_DriveStaysInterlocked : DriveInterlocked base := by
  refine ⟨⟨by decide +kernel, fun p hp => absurd hp (by rw [show base.sn.inFlight = none from rfl]; exact nofun)⟩, fun h => absurd h (by decide +kernel)⟩

theorem witness_DutiesStayInRange : DutyInRange base := by unfold DutyInRange; decide +kernel

theorem witness_TableStaysSound : TagsDistinct base ∧ RecordsInRange base ∧ CountersInRange base := by
  refine ⟨by unfold TagsDistinct; decide +kernel, ?_, by unfold CountersInRange; decide +kernel⟩
  have h : base.records.all (fun r =>
      decide (1 ≤ r.foamWeight ∧ r.foamWeight ≤ 30 ∧ r.transfers ≤ 4 ∧ r.recovered ≤ 9999 ∧ r.reevacUsed ≤ 3 ∧ r.skipCount ≤ 3)
        && (r.declaredCharge.all (fun d => decide (1 ≤ d ∧ d ≤ 2000)) && (r.dwellOverride.all (fun d => decide (10 ≤ d ∧ d ≤ 600))
        && (r.batch.all (fun d => decide (1 ≤ d ∧ d ≤ 65535)) && r.foamShare.all (fun d => decide (d ≤ 65535)))))) = true := by decide +kernel
  intro r hr
  have h := List.all_eq_true.mp h r hr
  simp only [Bool.and_eq_true, decide_eq_true_eq] at h
  obtain ⟨⟨h1, h2, h3, h4, h5, h6⟩, h7, h8, h9, h10⟩ := h
  exact ⟨h1, h2, h3, h4, h5, h6, fun d hd => by simpa [hd] using h7, fun d hd => by simpa [hd] using h8,
    fun d hd => by simpa [hd] using h9, fun d hd => by simpa [hd] using h10⟩

/-- No gate of `base` is RELEASED. -/
theorem base_gates (g : Gate) : base.zu.gates.get g = ⟨.idle, false, none⟩ := by
  rcases g with (_ | _ | _) | _ <;> decide +kernel

theorem base_zones (p : Place) :
    (zoneList base p).length + (if hasReserved base p then 1 else 0) ≤ capacity base p := by
  rcases p with _ | (_ | _ | _) | n | _ | _ | _
  case station => revert n; decide +kernel
  all_goals decide +kernel

theorem base_stations : ∀ r ∈ base.records, ∀ n : Node, r.station = some n ↔ base.stations[n].claim = some r.tag := by
  decide +kernel

theorem base_passages : PassagesAgree base := by
  refine ⟨fun g hg => ?_, fun l m hl => ?_, fun l t ht => ?_, fun t ht => ?_, fun t ht => ?_⟩
  · rw [base_gates] at hg; exact nomatch hg
  · rw [base_gates] at hl; exact nomatch hl
  · rw [base_gates] at ht; exact nomatch ht
  · rw [show base.zu.gates.feed = ⟨.idle, false, none⟩ from base_gates .feed] at ht; exact nomatch ht
  · have h : base.cs.batchList.all (fun x => decide (x ∈ base.zu.chamber)) = true := by decide +kernel
    exact of_decide_eq_true (List.all_eq_true.mp h t ht)

theorem base_tags : (tagsInZones base).Perm (base.records.map (·.tag)) := by decide +kernel

theorem witness_CabinetsStandInOneZone : TagsDistinct base ∧ GatesAgree base ∧ CabinetsStandOnce base ∧ PassagesAgree base :=
  ⟨witness_TableStaysSound.1, witness_ValvesAndGatesFollowTheirStates.2, ⟨base_tags, base_zones, base_stations⟩, base_passages⟩

theorem witness_ConfigurationStaysInRange : ConfigInRange base := by
  refine ⟨fun i => ?_, fun c => ?_, by decide +kernel, by decide +kernel, fun z => ?_, by decide +kernel⟩
  · cases i <;> decide +kernel
  · cases c <;> decide +kernel
  · rcases z with _ | (_ | _ | _) | _ | _ <;> decide +kernel

end Sys2Proof.Tests
end

section
/-!
Gate Clear (R36): the sender check that refuses a station, what the command does to the gate of its index, and the statement
assembled from them.
-/

namespace Sys2Proof.Machine

variable {s : State} {k : ReqKind} {f : Frame} {rest : List Frame} {n : Node} {b : Body}

/-- A JOINED station's request of a kind that no rule lets it send is taken and refused before its owner sees it (R191). -/
theorem request_of_joined_not_may (hh : HeadIs s k f rest) (hs : frameSource f = nodeNumber n)
    (hj : s.stations[n].state = .joined) (hm : k.stationMay s.stations[n].kind = false) :
    request k b s = answeredWith (popped s rest) (refusedFrame (nodeNumber n) k.code .notPermitted) := by
  have ⟨_, _, hbytes, _⟩ := hh
  have hsend : frameSender f = some (.station n) := by rw [frameSender, hs, senderOf_nodeNumber]
  have hjoin : ¬ (k ≠ .join ∧ (popped s rest).stations[n].state ≠ .joined) := fun h => h.2 hj
  have href : senderRefusal k f (.station n) (popped s rest) = some .notPermitted := by
    unfold senderRefusal
    rw [if_neg (Nat.not_lt.mpr hbytes)]
    show (if k ≠ .join ∧ (popped s rest).stations[n].state ≠ .joined then some Reason.notJoined else _) = _
    rw [if_neg hjoin]
    exact if_pos hm
  simp only [request, takeRequest_of_head hh, serve, hsend, href, hs, replyFrames_refused, placeAnswer_one]

/-- Gate Clear as a command: the request of its kind, served for the supervisor only. -/
theorem exec_gateClear (s : State) : exec .gateClear s = .next (request .gateClear (supervisorBody gateClearBody) s) := rfl

/-- Gate Clear of the supervisor is its body on the taken request, with its answer. -/
theorem request_gateClear_of_supervisor (hh : HeadIs s .gateClear f rest) (hs : frameSource f = 14) :
    request .gateClear (supervisorBody gateClearBody) s =
      placeAnswer (gateClearBody f (popped s rest)).1 (replyFrames 14 0x39 (gateClearBody f (popped s rest)).2) :=
  request_of_supervisor ⟨hh, hs, rfl⟩

/-- No gate has an index above 3. -/
theorem gateOfIndex_eq_none {i : Nat} (hi : 4 ≤ i) : gateOfIndex i = none :=
  List.getElem?_eq_none hi

/-- An index that names no gate is BAD_VALUE. -/
theorem gateClearBody_of_no_gate (h : gateOfIndex f.fields.index = none) : gateClearBody f s = refuse s .badValue := by
  simp only [gateClearBody, h]

section
variable {g : Gate} (hg : gateOfIndex f.fields.index = some g)
include hg

/-- An IDLE gate is left as it is. -/
theorem gateClearBody_of_idle (h : (s.zu.gates.get g).state = .idle) : gateClearBody f s = answerDone s .empty := by
  simp only [gateClearBody, hg, h]

/-- A RELEASED gate waits for its passage. -/
theorem gateClearBody_of_released (h : (s.zu.gates.get g).state = .released) : gateClearBody f s = refuse s .busy := by
  simp only [gateClearBody, hg, h]

/-- A BLOCKED gate is returned to IDLE. -/
theorem gateClearBody_of_blocked (h : (s.zu.gates.get g).state = .blocked) :
    gateClearBody f s = answerDone (unblockGate s g) .empty := by
  simp only [gateClearBody, hg, h]

end

/-- Settles O18: a station is stopped by the sender check, and the supervisor's request is the body on the index and on the three states
of the gate it names. -/
theorem gateClearByState : Obligations.GateClearByState := by
  unfold Obligations.GateClearByState
  intro s f rest hh
  refine ⟨fun m hs hj => ?station, fun hs => ⟨fun hi => ?badIndex, fun g hg => ?gate⟩⟩
  case station => exact congrArg Host.Outcome.next (request_of_joined_not_may hh hs hj rfl)
  case badIndex =>
    rw [exec_gateClear, request_gateClear_of_supervisor hh hs, gateClearBody_of_no_gate (gateOfIndex_eq_none hi)]
    rfl
  case gate =>
    rw [exec_gateClear, request_gateClear_of_supervisor hh hs]
    cases hstate : (s.zu.gates.get g).state with
    | idle => rw [gateClearBody_of_idle (s := popped s rest) hg hstate]; rfl
    | released => rw [gateClearBody_of_released (s := popped s rest) hg hstate]; rfl
    | blocked =>
      rw [gateClearBody_of_blocked (s := popped s rest) hg hstate]
      cases g <;> rfl

end Sys2Proof.Machine
end

section
/-!
Unbar (R63): the sender check stops a station; of the supervisor, what the command does is read off the node that the frame names and
the entry of that node, which is left, emptied or made LOST.
-/

namespace Sys2Proof.Machine

variable {s : State} {f : Frame} {rest : List Frame} {n : Node} {e : StationEntry}

/-- A node's number names that node. -/
theorem nodeOf_nodeNumber (n : Node) : nodeOf (nodeNumber n) = some n := by
  revert n; decide

/-- Only 1 to 12 are the numbers of nodes with an entry. -/
theorem nodeOf_eq_none {i : Nat} (hi : i = 0 ∨ 12 < i) : nodeOf i = none := by
  unfold nodeOf
  exact dif_neg (by omega)

/-- Unbar of a JOINED station, which no rule lets it send, is refused as NOT_PERMITTED (R191). -/
theorem exec_unbar_of_station (hh : HeadIs s .unbar f rest) (hs : frameSource f = nodeNumber n)
    (hj : s.stations[n].state = .joined) :
    exec .unbar s = .next (answeredWith (popped s rest) (refusedFrame (nodeNumber n) 0x38 .notPermitted)) :=
  congrArg Host.Outcome.next (request_of_joined_not_may hh hs hj rfl)

/-- Unbar of the supervisor is its body on the taken request, with its answer. -/
theorem exec_unbar_of_supervisor (hh : HeadIs s .unbar f rest) (hs : frameSource f = 14) :
    exec .unbar s = .next (placeAnswer (unbarBody f (popped s rest)).1
      (replyFrames 14 0x38 (unbarBody f (popped s rest)).2)) :=
  congrArg Host.Outcome.next (request_of_supervisor ⟨hh, hs, rfl⟩)

/-- A number that names no node is BAD_VALUE. -/
theorem unbarBody_of_no_node (h : nodeOf f.fields.node = none) : unbarBody f s = refuse s .badValue := by
  simp only [unbarBody, h]

section
variable (hn : f.fields.node = nodeNumber n)
include hn

/-- An entry that is not BARRED is BAD_STAGE, and stays. -/
theorem unbarBody_of_not_barred (h : s.stations[n].state ≠ .barred) : unbarBody f s = refuse s .badStage := by
  simp only [unbarBody, hn, nodeOf_nodeNumber]
  exact if_pos h

/-- A BARRED entry is changed, and nothing else. -/
theorem unbarBody_of_barred (h : s.stations[n].state = .barred) :
    unbarBody f s = answerDone (updStation s n unbarredEntry) .empty := by
  simp only [unbarBody, hn, nodeOf_nodeNumber]
  exact if_neg (not_not_intro h)

end

/-- Without a claim the entry becomes ABSENT and empty, with its lost_latch kept. -/
theorem unbarredEntry_of_unclaimed (h : e.claim = none) :
    unbarredEntry e = ⟨.absent, none, none, {}, {}, none, e.lostLatch, none⟩ := by
  rw [unbarredEntry, h]
  rfl

/-- With a claim the entry becomes LOST, all its other fields kept. -/
theorem unbarredEntry_of_claimed (h : e.claim ≠ none) : unbarredEntry e = { e with state := .lost } :=
  if_pos (Option.isSome_iff_ne_none.mpr h)

/-- Settles O10: a station is stopped by the sender check, and the supervisor's request is the body on the node it names, on the state
of that node's entry and, where it is BARRED, on its claim. -/
theorem unbarLiftsBar : Obligations.UnbarLiftsBar := by
  unfold Obligations.UnbarLiftsBar
  intro s f rest hh
  refine ⟨fun m hs hj => exec_unbar_of_station hh hs hj, fun hs => ?supervisor⟩
  rw [exec_unbar_of_supervisor hh hs]
  refine ⟨fun hi => ?badNode, fun n hn => ⟨fun hb => ?notBarred, fun hb hc => ?unclaimed, fun hb hc => ?claimed⟩⟩
  case badNode =>
    rw [unbarBody_of_no_node (nodeOf_eq_none hi)]
    rfl
  case notBarred =>
    rw [unbarBody_of_not_barred (s := popped s rest) hn hb]
    rfl
  case unclaimed =>
    rw [unbarBody_of_barred (s := popped s rest) hn hb, ← unbarredEntry_of_unclaimed hc]
    rfl
  case claimed =>
    rw [unbarBody_of_barred (s := popped s rest) hn hb, ← unbarredEntry_of_claimed hc]
    rfl

end Sys2Proof.Machine
end

section
/-!
Vessel Offline (R109): the sender check stops a station; of the supervisor, what the command does is read off the vessel that the index
names and its state: at rest it is taken out of service, OFFLINE it is left, and a transfer under way runs on.
-/

namespace Sys2Proof.Machine

variable {s : State} {f : Frame} {rest : List Frame} {n : Node} {v : VesselIx}

/-- Vessel Offline of a JOINED station, which no rule lets it send, is refused as NOT_PERMITTED (R191). -/
theorem exec_vesselOffline_of_station (hh : HeadIs s .vesselOffline f rest) (hs : frameSource f = nodeNumber n)
    (hj : s.stations[n].state = .joined) :
    exec .vesselOffline s = .next (answeredWith (popped s rest) (refusedFrame (nodeNumber n) 0x36 .notPermitted)) :=
  congrArg Host.Outcome.next (request_of_joined_not_may hh hs hj rfl)

/-- Vessel Offline of the supervisor is its body on the taken request, with its answer, in every line state. -/
theorem exec_vesselOffline_of_supervisor (hh : HeadIs s .vesselOffline f rest) (hs : frameSource f = 14) :
    exec .vesselOffline s = .next (placeAnswer (vesselOfflineBody f (popped s rest)).1
      (replyFrames 14 0x36 (vesselOfflineBody f (popped s rest)).2)) :=
  congrArg Host.Outcome.next (request_of_supervisor ⟨hh, hs, rfl⟩)

/-- A vessel's index names that vessel. -/
theorem vesselOfIndex_val (v : VesselIx) : vesselOfIndex v.val = some v :=
  dif_pos v.isLt

/-- No vessel has an index above 3. -/
theorem vesselOfIndex_eq_none {i : Nat} (hi : 4 ≤ i) : vesselOfIndex i = none :=
  dif_neg (Nat.not_lt.mpr hi)

/-- An index that names no vessel is BAD_VALUE. -/
theorem vesselOfflineBody_of_no_vessel (h : vesselOfIndex f.fields.index = none) : vesselOfflineBody f s = refuse s .badValue := by
  simp only [vesselOfflineBody, h]

/-- A vessel taken out of service: net_g and fault_cause are removed, everything else is kept. -/
def offlineVessel (x : Vessel) : Vessel := { x with state := .offline, netG := none, faultCause := none }

section
variable (hv : f.fields.index = v.val)
include hv

/-- A vessel at rest is taken out of service, and nothing else changes. -/
theorem vesselOfflineBody_of_resting
    (h : s.vu.vessels[v].state = .idle ∨ s.vu.vessels[v].state = .full ∨ s.vu.vessels[v].state = .fault) :
    vesselOfflineBody f s = answerDone (updVessel s v offlineVessel) .empty := by
  simp only [vesselOfflineBody, hv, vesselOfIndex_val]
  obtain hidle | hfull | hfault := h
  · rw [hidle]; rfl
  · rw [hfull]; rfl
  · rw [hfault]; rfl

/-- An OFFLINE vessel is left as it is. -/
theorem vesselOfflineBody_of_offline (h : s.vu.vessels[v].state = .offline) : vesselOfflineBody f s = answerDone s .empty := by
  simp only [vesselOfflineBody, hv, vesselOfIndex_val, h]

/-- A transfer under way is BUSY, and runs on. -/
theorem vesselOfflineBody_of_transfer
    (h : s.vu.vessels[v].state = .baseline ∨ s.vu.vessels[v].state = .filling ∨ s.vu.vessels[v].state = .settling
      ∨ s.vu.vessels[v].state = .final) :
    vesselOfflineBody f s = refuse s .busy := by
  simp only [vesselOfflineBody, hv, vesselOfIndex_val]
  obtain hbaseline | hfilling | hsettling | hfinal := h
  · rw [hbaseline]
  · rw [hfilling]
  · rw [hsettling]
  · rw [hfinal]

end

/-- Settles O36: a station is stopped by the sender check, and the supervisor's request is the body on the index and on the state of the
vessel it names: at rest, OFFLINE, or in a transfer. -/
theorem vesselOfflineByState : Obligations.VesselOfflineByState := by
  unfold Obligations.VesselOfflineByState
  intro s f rest hh
  refine ⟨fun m hs hj => exec_vesselOffline_of_station hh hs hj, fun hs => ?supervisor⟩
  rw [exec_vesselOffline_of_supervisor hh hs]
  refine ⟨fun hi => ?badIndex, fun v hv => ⟨fun h => ?resting, fun h => ?offline, fun h => ?transfer⟩⟩
  case badIndex =>
    rw [vesselOfflineBody_of_no_vessel (vesselOfIndex_eq_none hi)]
    rfl
  case resting =>
    rw [vesselOfflineBody_of_resting (s := popped s rest) hv h]
    rfl
  case offline =>
    rw [vesselOfflineBody_of_offline (s := popped s rest) hv h]
    rfl
  case transfer =>
    rw [vesselOfflineBody_of_transfer (s := popped s rest) hv h]
    rfl

end Sys2Proof.Machine
end

section
/-!
What an event changes without disturbing the invariants. `Quiet s t` says that t differs from s only where no invariant looks, or in a
way that every invariant bears at once: notices within the queue's depth, records that keep their tag and station and stay in range,
vessels whose valve stays in step with their state. `Calm s t` says so of all but the sensors and the chamber's phase, duties and drive.
Both are reflexive and transitive, so an event made of quiet operations is quiet.
-/

namespace Sys2Proof.Machine

/-- An inlet valve is on exactly while its vessel is FILLING (R107). -/
def ValveFits (x : Vessel) : Prop := x.valve = true ↔ x.state = .filling

/-- The counts and values of one record lie in their ranges. -/
def RecordInRange (r : Record) : Prop :=
  1 ≤ r.foamWeight ∧ r.foamWeight ≤ 30 ∧ r.transfers ≤ 4 ∧ r.recovered ≤ 9999 ∧ r.reevacUsed ≤ 3 ∧ r.skipCount ≤ 3
    ∧ (∀ d : Nat, r.declaredCharge = some d → 1 ≤ d ∧ d ≤ 2000)
    ∧ (∀ d : Nat, r.dwellOverride = some d → 10 ≤ d ∧ d ≤ 600)
    ∧ (∀ k : Nat, r.batch = some k → 1 ≤ k ∧ k ≤ 65535)
    ∧ ∀ g : Nat, r.foamShare = some g → g ≤ 65535

/-- The ranges of the table are those of its records. -/
theorem recordsInRange_iff (s : State) : RecordsInRange s ↔ ∀ r ∈ s.records, RecordInRange r := Iff.rfl

/-- A hold set holds no reason twice (R8). -/
def HoldsOnce (r : Record) : Prop := (r.holds.map (·.reason)).Nodup

/-- The record after a change that leaves its tag and station, and keeps its hold set and its ranges sound. -/
structure SameCabinet (r r' : Record) : Prop where
  tag : r'.tag = r.tag
  station : r'.station = r.station
  holds : HoldsOnce r → HoldsOnce r'
  range : RecordInRange r → RecordInRange r'

theorem SameCabinet.refl (r : Record) : SameCabinet r r := ⟨rfl, rfl, id, id⟩

theorem SameCabinet.trans {a b c : Record} (h : SameCabinet a b) (k : SameCabinet b c) : SameCabinet a c :=
  ⟨k.tag.trans h.tag, k.station.trans h.station, k.holds ∘ h.holds, k.range ∘ h.range⟩

/-- A change of fields that carry no range: only the listed ones have to stay. -/
theorem SameCabinet.of_fields {r r' : Record} (tag : r'.tag = r.tag) (station : r'.station = r.station)
    (holds : HoldsOnce r → HoldsOnce r')
    (weight : r'.foamWeight = r.foamWeight) (transfers : r.transfers ≤ 4 → r'.transfers ≤ 4)
    (recovered : r.recovered ≤ 9999 → r'.recovered ≤ 9999) (reevac : r'.reevacUsed = r.reevacUsed)
    (skip : r.skipCount ≤ 3 → r'.skipCount ≤ 3) (charge : r'.declaredCharge = r.declaredCharge)
    (dwell : (∀ d : Nat, r.dwellOverride = some d → 10 ≤ d ∧ d ≤ 600) → ∀ d : Nat, r'.dwellOverride = some d → 10 ≤ d ∧ d ≤ 600)
    (batch : r'.batch = r.batch)
    (share : (∀ g : Nat, r.foamShare = some g → g ≤ 65535) → ∀ g : Nat, r'.foamShare = some g → g ≤ 65535) : SameCabinet r r' := by
  refine ⟨tag, station, holds, ?_⟩
  rintro ⟨w1, w2, tr, rc, re, sk, ch, dw, ba, sh⟩
  exact ⟨weight ▸ w1, weight ▸ w2, transfers tr, recovered rc, reevac ▸ re, skip sk, charge ▸ ch, dwell dw, batch ▸ ba, share sh⟩

/-- The tags of the table are distinct and none is reserved (R2). -/
def TagsSound (s : State) : Prop := (s.records.map (·.tag)).Nodup ∧ ∀ r ∈ s.records, reservedTag r.tag = false

/-- The table is sound exactly when its tags are and no hold set holds a reason twice. -/
theorem tagsDistinct_iff (s : State) : TagsDistinct s ↔ TagsSound s ∧ ∀ r ∈ s.records, HoldsOnce r := by
  constructor
  · rintro ⟨hn, hr⟩
    exact ⟨⟨hn, fun r h => (hr r h).1⟩, fun r h => (hr r h).2⟩
  · rintro ⟨⟨hn, hr⟩, hh⟩
    exact ⟨hn, fun r h => ⟨hr r h, hh r h⟩⟩

/-- In a sound table a record is the one its tag finds. -/
theorem lookup_of_mem {s : State} {r : Record} (h : TagsSound s) (hr : r ∈ s.records) : lookup s r.tag = some r := by
  obtain ⟨hn, hres⟩ := h
  rw [lookup, hres r hr, if_neg Bool.false_ne_true]
  clear hres
  revert hr hn
  generalize s.records = l
  intro hr hn
  induction l with
  | nil => cases hr
  | cons x l ih =>
    rw [List.map_cons, List.nodup_cons] at hn
    rcases List.mem_cons.mp hr with rfl | hl
    · simp
    · have hx : (x.tag == r.tag) = false := by
        simp only [beq_eq_false_iff_ne, ne_eq]
        exact fun e => hn.1 (e ▸ List.mem_map_of_mem hl)
      rw [List.find?_cons_of_neg (by simp [hx])]
      exact ih hl hn.2

/-- Tables, zones, claims, valves and queues stand in t as they stood in s: nothing of them is disturbed that an invariant reads. -/
structure Calm (s t : State) : Prop where
  line : t.line.state = s.line.state
  requests : t.lp.requests = s.lp.requests
  answers : t.lp.answers = s.lp.answers
  notices : s.lp.notices.length ≤ 16 → t.lp.notices.length ≤ 16
  cfg : t.cfg = s.cfg
  records : TagsSound s → ∃ g : Record → Record, t.records = s.records.map g ∧ ∀ r ∈ s.records, SameCabinet r (g r)
  zu : t.zu = s.zu
  claims : ∀ n : Node, t.stations[n].claim = s.stations[n].claim
  vessels : ∀ v : VesselIx, ValveFits s.vu.vessels[v] → ValveFits t.vu.vessels[v]
  batchList : t.cs.batchList = s.cs.batchList
  batchCounter : t.cs.batchCounter = s.cs.batchCounter

/-- And neither are the sensors, the chamber's phase and recipes, the duties and the shredder drive. -/
structure Quiet (s t : State) : Prop extends Calm s t where
  door : t.tu.door.filtered = s.tu.door.filtered
  duty : t.tu.pwm.staged = s.tu.pwm.staged
  applied : s.tu.pwm.staged ≤ 256 → s.tu.pwm.applied ≤ 256 → t.tu.pwm.applied ≤ 256
  sensors : t.sn.sensors = s.sn.sensors
  inFlight : t.sn.inFlight = s.sn.inFlight
  phase : t.cs.phase = s.cs.phase
  working : t.cs.working = s.cs.working
  staged : t.cs.staged = s.cs.staged
  drive : t.cs.outputs.shredDrive = s.cs.outputs.shredDrive

theorem same_records (s : State) :
    ∃ g : Record → Record, s.records = s.records.map g ∧ ∀ r ∈ s.records, SameCabinet r (g r) :=
  ⟨id, (List.map_id _).symm, fun r _ => .refl r⟩

theorem Calm.refl (s : State) : Calm s s :=
  ⟨rfl, rfl, rfl, id, rfl, fun _ => same_records s, rfl, fun _ => rfl, fun _ => id, rfl, rfl⟩

theorem Quiet.refl (s : State) : Quiet s s :=
  ⟨.refl s, rfl, rfl, fun _ => id, rfl, rfl, rfl, rfl, rfl, rfl⟩

/-- Records that stay the same cabinets keep the tags sound. -/
theorem TagsSound.of_map {s t : State} {g : Record → Record} (h : TagsSound s) (ht : t.records = s.records.map g)
    (hg : ∀ r ∈ s.records, SameCabinet r (g r)) : TagsSound t := by
  obtain ⟨hn, hr⟩ := h
  have htags : t.records.map (·.tag) = s.records.map (·.tag) := by
    rw [ht, List.map_map]
    exact List.map_congr_left fun r h => (hg r h).tag
  refine ⟨htags ▸ hn, fun r h => ?_⟩
  rw [ht] at h
  obtain ⟨x, hx, rfl⟩ := List.mem_map.mp h
  exact (hg x hx).tag ▸ hr x hx

theorem Calm.trans {s t u : State} (h : Calm s t) (k : Calm t u) : Calm s u where
  line := k.line.trans h.line
  requests := k.requests.trans h.requests
  answers := k.answers.trans h.answers
  notices := k.notices ∘ h.notices
  cfg := k.cfg.trans h.cfg
  records hs := by
    obtain ⟨g, hg, hsame⟩ := h.records hs
    obtain ⟨g', hg', hsame'⟩ := k.records (hs.of_map hg hsame)
    refine ⟨g' ∘ g, by rw [hg', hg, List.map_map], fun r hr => (hsame r hr).trans (hsame' _ ?_)⟩
    rw [hg]
    exact List.mem_map_of_mem hr
  zu := k.zu.trans h.zu
  claims n := (k.claims n).trans (h.claims n)
  vessels v := k.vessels v ∘ h.vessels v
  batchList := k.batchList.trans h.batchList
  batchCounter := k.batchCounter.trans h.batchCounter

theorem Quiet.trans {s t u : State} (h : Quiet s t) (k : Quiet t u) : Quiet s u where
  toCalm := h.toCalm.trans k.toCalm
  door := k.door.trans h.door
  duty := k.duty.trans h.duty
  applied h1 h2 := k.applied (h.duty ▸ h1) (h.applied h1 h2)
  sensors := k.sensors.trans h.sensors
  inFlight := k.inFlight.trans h.inFlight
  phase := k.phase.trans h.phase
  working := k.working.trans h.working
  staged := k.staged.trans h.staged
  drive := k.drive.trans h.drive

/-- The same, the last operation first. -/
theorem Quiet.after {s t u : State} (k : Quiet t u) (h : Quiet s t) : Quiet s u := h.trans k

/-- A fold of quiet operations is quiet. -/
theorem Quiet.foldl {α : Type} {f : State → α → State} (hf : ∀ s a, Quiet s (f s a)) (l : List α) (s : State) :
    Quiet s (l.foldl f s) := by
  induction l generalizing s with
  | nil => exact .refl s
  | cons a l ih => exact (hf s a).trans (ih (f s a))

/-! ### One update -/

variable (s : State)

theorem quiet_placeNotice (d : Nat) (b : NoticeBody) : Quiet s (placeNotice s d b) := by
  obtain ⟨hq, ha, hn⟩ := placeNotice_lp s d b
  exact { Quiet.refl s with
    line := by simp
    requests := hq
    answers := ha
    notices := hn
    cfg := by simp
    records := fun _ => by simpa using same_records s
    zu := by simp
    claims := by simp
    vessels := by simp
    door := by simp
    duty := by simp
    applied := by simp
    sensors := by simp
    inFlight := by simp
    phase := by simp
    batchList := by simp
    batchCounter := by simp
    working := by simp
    staged := by simp
    drive := by simp }

theorem quiet_toSupervisor (b : NoticeBody) : Quiet s (toSupervisor s b) := quiet_placeNotice s _ b

theorem quiet_toStation (n : Option Node) (b : NoticeBody) : Quiet s (toStation s n b) := by
  cases n with
  | none => exact .refl s
  | some k => exact quiet_placeNotice s _ b

theorem quiet_updProgress (n : Node) (f : Progress → Progress) : Quiet s (updProgress s n f) := { Quiet.refl s with }

theorem quiet_clearProgress (n : Node) : Quiet s (clearProgress s n) := quiet_updProgress s n _

theorem quiet_setStationChannel (n : Node) (c : StationChannel) : Quiet s (setStationChannel s n c) := { Quiet.refl s with }

theorem quiet_setSettle (v : VesselIx) (c : Channel) : Quiet s (setSettle s v c) := { Quiet.refl s with }

theorem quiet_setHeartbeat (n : Node) (c : Channel) : Quiet s (setHeartbeat s n c) := { Quiet.refl s with }

theorem quiet_setPassage (g : Gate) (c : Channel) : Quiet s (setPassage s g c) := { Quiet.refl s with }

theorem quiet_setInletQueue (c : Stream) (q : List InletEntry) : Quiet s (setInletQueue s c q) := by
  cases c
  · exact { Quiet.refl s with }
  · exact { Quiet.refl s with }

theorem quiet_putBack (c : Stream) (e : InletEntry) : Quiet s (putBack s c e) := quiet_setInletQueue s c _

theorem quiet_joinQueue (c : Stream) (e : InletEntry) : Quiet s (joinQueue s c e) := quiet_setInletQueue s c _

theorem quiet_leaveQueues (t : Tag) : Quiet s (leaveQueues s t) := { Quiet.refl s with }

theorem quiet_requestSample (r : Requester) (i : SensorIx) : Quiet s (requestSample s r i) := by
  unfold requestSample
  split
  · exact { Quiet.refl s with }
  · exact { Quiet.refl s with }

theorem quiet_withdrawSample (r : Requester) : Quiet s (withdrawSample s r) := { Quiet.refl s with }

theorem quiet_startPhase (k : Nat) : Quiet s (startPhase s k) := { Quiet.refl s with }

theorem quiet_stopChamberChannels : Quiet s (stopChamberChannels s) := { Quiet.refl s with }

theorem quiet_freezeChamberChannels : Quiet s (freezeChamberChannels s) := { Quiet.refl s with }

/-- A station entry that keeps its claim. -/
theorem quiet_updStation (n : Node) (f : StationEntry → StationEntry) (hf : (f s.stations[n]).claim = s.stations[n].claim) :
    Quiet s (updStation s n f) :=
  { Quiet.refl s with
    claims := fun m => by
      show (s.stations.set n (f s.stations[n]))[m].claim = _
      by_cases e : n = m
      · subst e; simpa using hf
      · have : n.val ≠ m.val := fun h => e (Fin.ext h)
        simp [this] }

/-- A vessel whose valve stays in step with its state. -/
theorem quiet_updVessel (v : VesselIx) (f : Vessel → Vessel) (hf : ValveFits s.vu.vessels[v] → ValveFits (f s.vu.vessels[v])) :
    Quiet s (updVessel s v f) :=
  { Quiet.refl s with
    vessels := fun w hw => by
      show ValveFits (s.vu.vessels.set v (f s.vu.vessels[v]))[w]
      by_cases e : v = w
      · subst e; simpa using hf hw
      · have : v.val ≠ w.val := fun h => e (Fin.ext h)
        simpa [Vector.getElem_set, this] using hw }

/-- A record that stays the same cabinet. -/
theorem quiet_updRecord_of_found (t : Tag) (f : Record → Record) (hf : ∀ r, lookup s t = some r → SameCabinet r (f r)) :
    Quiet s (updRecord s t f) :=
  { Quiet.refl s with
    records := fun hs => ⟨fun r => if r.tag == t then f r else r, rfl, fun r hr => by
      by_cases e : r.tag = t
      · subst e
        simpa using hf r (lookup_of_mem hs hr)
      · simpa [e] using SameCabinet.refl r⟩ }

theorem quiet_updRecord (t : Tag) (f : Record → Record) (hf : ∀ r, SameCabinet r (f r)) : Quiet s (updRecord s t f) :=
  quiet_updRecord_of_found s t f fun r _ => hf r

theorem quiet_setStage (t : Tag) (st : Stage) : Quiet s (setStage s t st) :=
  quiet_updRecord s t _ fun _ => ⟨rfl, rfl, id, id⟩

end Sys2Proof.Machine
end

section
/-!
The operations of the blocks that are quiet: holds, grants, transfers, the way to DONE1, station loss, and the chamber's handling of
channels, samples and shares.
-/

namespace Sys2Proof.Machine

variable (s : State)

/-! ### Inlet queues and grants -/

/-- The lowest-numbered IDLE vessel is IDLE. -/
theorem idleVessel_state {c : Stream} {v : VesselIx} (h : idleVessel s c = some v) : s.vu.vessels[v].state = .idle := by
  have := List.find?_some h
  simp only [Bool.and_eq_true, beq_iff_eq] at this
  exact this.1

theorem quiet_grant (c : Stream) (v : VesselIx) (e : InletEntry) (hv : s.vu.vessels[v].state = .idle) : Quiet s (grant s c v e) := by
  unfold grant
  refine (quiet_setInletQueue s c _).trans ((quiet_updVessel _ v _ fun h => ?_).trans (quiet_requestSample _ _ _))
  have hs : (setInletQueue s c ((inletQueue s c).erase e)).vu.vessels[v].state = .idle := by cases c <;> exact hv
  simp only [ValveFits, hs] at h ⊢
  simpa using h

theorem quiet_grantRounds (k : Nat) (c : Stream) : Quiet s (grantRounds k s c) := by
  induction k generalizing s with
  | zero => exact .refl s
  | succ k ih =>
    unfold grantRounds
    split
    · rename_i v e hv _
      exact (quiet_grant s c v e (idleVessel_state s hv)).trans (ih _)
    · exact .refl s

theorem quiet_grantAttempt (c : Stream) : Quiet s (grantAttempt s c) := by
  unfold grantAttempt
  split
  · exact quiet_grantRounds s 4 c
  · exact .refl s

theorem quiet_grantBoth : Quiet s (grantBoth s) := (quiet_grantAttempt s .h).trans (quiet_grantAttempt _ .f)

/-- A vessel that is not FILLING has its valve off, and goes to another state that is not FILLING. -/
theorem ValveFits.of_closed {x y : Vessel} (hx : x.state ≠ .filling) (hv : y.valve = x.valve) (hy : y.state ≠ .filling)
    (h : ValveFits x) : ValveFits y := by
  have hoff : ¬ x.valve = true := fun e => hx (h.mp e)
  exact ⟨fun e => absurd (hv ▸ e) hoff, fun e => absurd e hy⟩

/-- A vessel that is not FILLING goes to another state that is not FILLING, its valve as it was. -/
theorem quiet_updVessel_closed (v : VesselIx) (f : Vessel → Vessel) (hv : s.vu.vessels[v].state ≠ .filling)
    (hf : ∀ x, (f x).valve = x.valve ∧ (f x).state ≠ .filling) : Quiet s (updVessel s v f) :=
  quiet_updVessel s v f fun h => h.of_closed hv (hf _).1 (hf _).2

theorem quiet_abandonGrant (v : VesselIx) (hv : s.vu.vessels[v].state ≠ .filling) : Quiet s (abandonGrant s v) :=
  .after (quiet_grantAttempt _ _)
    (.after (quiet_updVessel_closed _ v _ hv fun _ => by simp) (quiet_withdrawSample s _))

theorem quiet_closeValve (v : VesselIx) (d : Clock) : Quiet s (closeValve s v d) :=
  .after (quiet_setSettle _ _ _) (quiet_updVessel s v _ fun _ => by simp [ValveFits])

/-! ### Holds -/

/-- A hold that the record does not carry joins its hold set. -/
theorem quiet_putHold (t : Tag) (h : HoldReason) (k : Nat) (hn : isNewHold s t h = true) : Quiet s (putHold s t h k) := by
  obtain ⟨r, hr, hc⟩ := isNewHold_iff.mp hn
  refine quiet_updRecord_of_found s t _ fun x hx => ?_
  obtain rfl : r = x := Option.some.inj (hr.symm.trans hx)
  refine ⟨rfl, rfl, fun hh => ?_, id⟩
  have hnot : h ∉ r.holds.map (·.reason) := by
    intro hm
    obtain ⟨e, he, rfl⟩ := List.mem_map.mp hm
    have : carries r e.reason = true := List.any_eq_true.mpr ⟨e, he, by simp⟩
    rw [hc] at this
    cases this
  simp only [HoldsOnce, List.map_append, List.map_cons, List.map_nil]
  exact List.Nodup.append hh (by simp) (by simpa using hnot)

theorem quiet_sendHoldRaised (t : Tag) (h : HoldReason) (k : Nat) (a : Option Stage) : Quiet s (sendHoldRaised s t h k a) := by
  unfold sendHoldRaised
  split
  · exact .refl s
  · exact quiet_toSupervisor s _

theorem quiet_addHold (t : Tag) (h : HoldReason) (k : Nat) (a : Option Stage) : Quiet s (addHold s t h k a) := by
  unfold addHold
  split
  · rename_i hn
    exact (quiet_putHold s t h k hn).trans (quiet_sendHoldRaised _ _ _ _ _)
  · exact .refl s

theorem quiet_withdrawInlet (t : Tag) : Quiet s (withdrawInlet s t) := by
  unfold withdrawInlet
  split
  · exact .refl s
  · split
    · have hq : Quiet s (setStage (leaveQueues s t) t .claimed) := .after (quiet_setStage _ t _) (quiet_leaveQueues s t)
      dsimp only
      split
      · split
        · rename_i hb
          exact hq.trans (quiet_abandonGrant _ _ (by rw [hb]; decide))
        · exact hq
      · exact hq
    · exact .refl s

theorem quiet_raiseHold (t : Tag) (h : HoldReason) (k : Nat) (a : Option Stage) : Quiet s (raiseHold s t h k a) := by
  unfold raiseHold
  split
  · exact (quiet_withdrawInlet s t).trans (quiet_addHold _ _ _ _ _)
  · exact .refl s

theorem quiet_removeHold (t : Tag) (h : HoldReason) : Quiet s (removeHold s t h) :=
  quiet_updRecord s t _ fun _ => ⟨rfl, rfl, fun hh => hh.sublist (List.filter_sublist.map _), id⟩

/-! ### DONE1 -/

theorem quiet_sendStageDone (t : Tag) : Quiet s (sendStageDone s t) := by
  unfold sendStageDone
  split
  · exact quiet_toStation s _ _
  · exact .refl s

theorem quiet_enterDone1 (t : Tag) : Quiet s (enterDone1 s t) :=
  .after (quiet_sendStageDone _ t) (quiet_updRecord s t _ fun _ => ⟨rfl, rfl, id, id⟩)

theorem quiet_enterDone1Empty (t : Tag) : Quiet s (enterDone1Empty s t) :=
  .after (quiet_enterDone1 _ t) (quiet_updRecord s t _ fun _ => ⟨rfl, rfl, id, id⟩)

theorem quiet_finishStage1 (n : Node) (t : Tag) : Quiet s (finishStage1 s n t) :=
  (quiet_clearProgress s n).trans (quiet_enterDone1 _ t)

theorem quiet_acceptLeak (t : Tag) : Quiet s (acceptLeak s t) := by
  unfold acceptLeak
  split
  · exact .refl s
  · split
    · split
      · exact quiet_updProgress s _ _
      · exact .refl s
      · exact quiet_finishStage1 s _ t
      · exact quiet_enterDone1 s t
    · exact .refl s

/-! ### Baseline and final samples -/

theorem quiet_openingAtEC (v : VesselIx) (n : Node) (t : Tag) : Quiet s (openingAtEC s v n t) := by
  unfold openingAtEC
  split
  · exact .refl s
  · exact .after (quiet_placeNotice _ _ _) (.after (quiet_setStationChannel _ n _)
      (.after (quiet_updProgress _ n _) (quiet_setStage s t _)))

theorem quiet_sendVessel (v : VesselIx) (c : VesselCause) (t : Tag) : Quiet s (sendVessel s v c t) := quiet_toSupervisor s _

theorem quiet_baselineEnds (v : VesselIx) (c : VesselCause) (hv : s.vu.vessels[v].state ≠ .filling) :
    Quiet s (baselineEnds s v c) := by
  unfold baselineEnds
  dsimp only
  split
  · exact .refl s
  · refine .after (quiet_grantAttempt _ _) (.after (quiet_sendVessel _ v c _) (.after (quiet_putBack _ _ _)
      (quiet_updVessel s v _ fun h => ?_)))
    cases c <;> exact h.of_closed hv rfl (by simp)

/-- A net written to a vessel leaves its valve and state. -/
theorem quiet_updVessel_net (v : VesselIx) (f : Vessel → Vessel) (hf : ∀ x, (f x).valve = x.valve ∧ (f x).state = x.state) :
    Quiet s (updVessel s v f) :=
  quiet_updVessel s v f fun h => by rwa [ValveFits, (hf _).1, (hf _).2]

@[simp] theorem updVessel_same (v : VesselIx) (f : Vessel → Vessel) :
    (updVessel s v f).vu.vessels[v] = f s.vu.vessels[v] := by simp [updVessel]

theorem quiet_baselineAnswer (v : VesselIx) (g : Option Int) (hv : s.vu.vessels[v].state = .baseline) :
    Quiet s (baselineAnswer s v g) := by
  unfold baselineAnswer
  split
  · exact quiet_baselineEnds s v _ (by rw [hv]; decide)
  · rename_i g
    have hnet := quiet_updVessel_net s v (fun x => { x with netG := some (g - x.tareG) }) fun _ => ⟨rfl, rfl⟩
    dsimp only
    split
    · exact hnet.trans (quiet_baselineEnds _ v _ (by rw [updVessel_same, hv]; decide))
    · split
      · exact hnet
      · exact .after (quiet_openingAtEC _ v _ _) (.after (quiet_updVessel _ v _ fun _ => by simp [ValveFits]) hnet)

theorem quiet_bookMeasured (t : Tag) (v : VesselIx) (c : ConfigTables) (d : Int) : Quiet s (updRecord s t (bookMeasured c v d)) :=
  quiet_updRecord s t _ fun _ =>
    .of_fields rfl rfl id rfl (fun _ => Nat.min_le_right _ _) (fun _ => Nat.min_le_right _ _) rfl id rfl id rfl id

theorem quiet_bookUnmeasured (t : Tag) (v : VesselIx) : Quiet s (updRecord s t (bookUnmeasured v)) :=
  quiet_updRecord s t _ fun _ => .of_fields rfl rfl id rfl (fun _ => Nat.min_le_right _ _) id rfl id rfl id rfl id

theorem quiet_afterBooking (v : VesselIx) (n : Node) (t : Tag) : Quiet s (afterBooking s v n t) := by
  unfold afterBooking
  split
  · exact (quiet_finishStage1 s n t).trans (quiet_grantAttempt _ _)
  · exact quiet_grantAttempt s _

/-! A hold that a booking raises can free another vessel and grant it again, but opens no valve. -/

/-- No vessel becomes FILLING. -/
def NoneOpens (s t : State) : Prop := ∀ v : VesselIx, s.vu.vessels[v].state ≠ .filling → t.vu.vessels[v].state ≠ .filling

theorem NoneOpens.refl : NoneOpens s s := fun _ => id

theorem NoneOpens.trans {s t u : State} (h : NoneOpens s t) (k : NoneOpens t u) : NoneOpens s u := fun v => k v ∘ h v

/-- An operation that leaves the vessels. -/
theorem NoneOpens.of_vessels {s t : State} (h : t.vu.vessels = s.vu.vessels) : NoneOpens s t := fun v => by rw [h]; exact id

theorem noneOpens_updVessel (v : VesselIx) (f : Vessel → Vessel)
    (hf : s.vu.vessels[v].state ≠ .filling → (f s.vu.vessels[v]).state ≠ .filling) : NoneOpens s (updVessel s v f) := by
  intro w
  show _ → (s.vu.vessels.set v (f s.vu.vessels[v]))[w].state ≠ _
  by_cases e : v = w
  · subst e; simpa using hf
  · have : v.val ≠ w.val := fun h => e (Fin.ext h)
    simp [this]

theorem noneOpens_requestSample (r : Requester) (i : SensorIx) : NoneOpens s (requestSample s r i) :=
  .of_vessels (by simp)

theorem noneOpens_setInletQueue (c : Stream) (q : List InletEntry) : NoneOpens s (setInletQueue s c q) :=
  .of_vessels (by cases c <;> rfl)

theorem noneOpens_grant (c : Stream) (v : VesselIx) (e : InletEntry) : NoneOpens s (grant s c v e) :=
  (noneOpens_setInletQueue s c _).trans ((noneOpens_updVessel _ v
    (fun x => { x with state := .baseline, bound := some (e.tag, e.node), baselineGross := none }) fun _ => by simp).trans
    (noneOpens_requestSample _ _ _))

theorem noneOpens_grantAttempt (c : Stream) : NoneOpens s (grantAttempt s c) := by
  have rounds : ∀ (k : Nat) (s : State), NoneOpens s (grantRounds k s c) := by
    intro k
    induction k with
    | zero => exact fun s => .refl s
    | succ k ih =>
      intro s
      unfold grantRounds
      split
      · exact (noneOpens_grant s c _ _).trans (ih _)
      · exact .refl s
  unfold grantAttempt
  split
  · exact rounds 4 s
  · exact .refl s

theorem noneOpens_abandonGrant (v : VesselIx) : NoneOpens s (abandonGrant s v) :=
  (noneOpens_updVessel (withdrawSample s (.vessel v)) v (fun x => { x with state := .idle, bound := none }) fun _ => by simp).trans
    (noneOpens_grantAttempt _ _)

theorem noneOpens_withdrawInlet (t : Tag) : NoneOpens s (withdrawInlet s t) := by
  unfold withdrawInlet
  split
  · exact .refl s
  · split
    · have hn : NoneOpens s (setStage (leaveQueues s t) t .claimed) := .of_vessels rfl
      dsimp only
      split
      · split
        · exact hn.trans (noneOpens_abandonGrant _ _)
        · exact hn
      · exact hn
    · exact .refl s

theorem noneOpens_raiseHold (t : Tag) (h : HoldReason) (k : Nat) (a : Option Stage) : NoneOpens s (raiseHold s t h k a) := by
  unfold raiseHold
  split
  · obtain ⟨rs, p, hp, -⟩ := addHold_frame (withdrawInlet s t) t h k a
    exact (noneOpens_withdrawInlet s t).trans (.of_vessels (by rw [hp]))
  · exact .refl s

/-- The unbinding of a vessel that is not FILLING. -/
theorem quiet_unbind (v : VesselIx) (next : VesselState) (c : Option FaultCause) (hv : s.vu.vessels[v].state ≠ .filling)
    (hn : next ≠ .filling) : Quiet s (unbind s v next c) :=
  quiet_updVessel s v _ fun h => h.of_closed hv rfl hn

theorem quiet_unmeasuredBooking (v : VesselIx) (t : Tag) (n : Node) (hv : s.vu.vessels[v].state ≠ .filling) :
    Quiet s (unmeasuredBooking s v t n) := by
  unfold unmeasuredBooking
  refine .after (quiet_afterBooking _ v n t) (.after (quiet_sendVessel _ v _ t) (.after (quiet_unbind _ v _ _ ?_ (by decide))
    (.after (quiet_raiseHold _ t _ _ _) (quiet_bookUnmeasured s t v))))
  exact noneOpens_raiseHold _ t _ _ _ v hv

/-- What a hold raised under a condition leaves as it was. -/
theorem quiet_raiseHold_if (p : Prop) [Decidable p] (t : Tag) (h : HoldReason) (k : Nat) (a : Option Stage) :
    Quiet s (if p then raiseHold s t h k a else s) ∧ NoneOpens s (if p then raiseHold s t h k a else s) := by
  split
  · exact ⟨quiet_raiseHold s t h k a, noneOpens_raiseHold s t h k a⟩
  · exact ⟨.refl s, .refl s⟩

theorem quiet_measuredBooking (v : VesselIx) (t : Tag) (n : Node) (g : Int) (hv : s.vu.vessels[v].state ≠ .filling) :
    Quiet s (measuredBooking s v t n g) := by
  unfold measuredBooking
  extract_lets delta after s1 s2 s3 s4 full s5 s6
  have h1 : Quiet s s1 := quiet_updVessel_net s v _ fun _ => ⟨rfl, rfl⟩
  have n1 : NoneOpens s s1 := noneOpens_updVessel s v _ id
  have h2 : Quiet s1 s2 := quiet_bookMeasured s1 t v _ delta
  obtain ⟨h3, n3⟩ : Quiet s2 s3 ∧ NoneOpens s2 s3 := quiet_raiseHold_if s2 _ t _ _ _
  obtain ⟨h4, n4⟩ : Quiet s3 s4 ∧ NoneOpens s3 s4 := quiet_raiseHold_if s3 _ t _ _ _
  have hv4 : s4.vu.vessels[v].state ≠ .filling := n4 v (n3 v (n1 v hv))
  have h5 : Quiet s4 s5 := quiet_unbind s4 v _ _ hv4 (by split <;> decide)
  have h6 : Quiet s5 s6 := by
    show Quiet s5 (if full then sendVessel s5 v .full t else s5)
    split
    · exact quiet_sendVessel s5 v _ t
    · exact .refl s5
  exact (((((h1.trans h2).trans h3).trans h4).trans h5).trans h6).trans (quiet_afterBooking s6 v n t)

theorem quiet_vesselAnswer (v : VesselIx) (g : Option Int) : Quiet s (vesselAnswer s v g) := by
  unfold vesselAnswer
  split
  · exact quiet_baselineAnswer s v g ‹_›
  · rename_i hv
    unfold finalAnswer
    split
    · exact .refl s
    · exact quiet_measuredBooking s v _ _ _ (by rw [hv]; decide)
    · exact quiet_unmeasuredBooking s v _ _ (by rw [hv]; decide)
  · exact .refl s

theorem quiet_settleExpired (v : VesselIx) : Quiet s (settleExpired s v) := by
  unfold settleExpired
  split
  · rename_i hv
    exact .after (quiet_requestSample _ _ _) (quiet_updVessel_closed s v _ (by rw [hv]; decide) fun _ => by simp)
  · exact .refl s

/-! ### The dwell and the hold window -/

theorem quiet_startWindow (n : Node) (t : Tag) (d : Option Clock) (r : Clock) : Quiet s (startWindow s n t d r) := by
  unfold startWindow
  exact .after (quiet_updProgress _ n _) (quiet_setStationChannel s n _)

theorem quiet_dwellExpired (n : Node) (d : Clock) : Quiet s (dwellExpired s n d) := by
  unfold dwellExpired
  split
  · refine .after (quiet_startWindow _ n _ _ _) (.after (quiet_placeNotice _ _ _) (.after (quiet_setStage _ _ _) ?_))
    split
    · exact quiet_closeValve s _ d
    · exact .refl s
  · exact .refl s

theorem quiet_windowOpened (n : Node) : Quiet s (windowOpened s n) := by
  unfold windowOpened
  split
  · exact quiet_updProgress s n _
  · exact .refl s

theorem quiet_windowClosed (n : Node) : Quiet s (windowClosed s n) := by
  unfold windowClosed
  dsimp only
  split
  · rename_i t _ _
    have hn : Quiet s (sendHoldResult s n t s.progress[n]) := quiet_placeNotice s _ _
    refine hn.trans ?_
    split
    · split
      · exact quiet_updProgress _ n _
      · exact quiet_finishStage1 _ n _
    · exact .after (quiet_raiseHold _ _ _ _ _) (quiet_clearProgress _ n)
  · exact .refl s

theorem quiet_takeReport (n : Node) (pa : Nat) : Quiet s (takeReport s n pa) :=
  .after (quiet_updProgress _ n _) (quiet_updStation s n _ rfl)

/-! ### Station loss, stop and resume -/

theorem quiet_discardProgress (n : Node) : Quiet s (discardProgress s n) :=
  .after (quiet_clearProgress _ n) (quiet_setStationChannel s n _)

theorem quiet_unwindClaim (n : Node) (r : Record) : Quiet s (unwindClaim s n r) := by
  unfold unwindClaim
  split
  · exact quiet_discardProgress s n
  · exact .after (quiet_discardProgress _ n) (quiet_withdrawInlet s _)
  · refine .after (quiet_setStage _ _ _) (.after (quiet_discardProgress _ n) ?_)
    split
    · split
      · exact quiet_closeValve s _ _
      · exact .refl s
    · exact .refl s
  · exact .after (quiet_setStage _ _ _) (quiet_discardProgress s n)
  · exact .refl s

theorem quiet_stationLoss (n : Node) (k : Nat) : Quiet s (stationLoss s n k) := by
  unfold stationLoss
  split
  · exact .refl s
  · exact .after (quiet_addHold _ _ _ _ _) (quiet_unwindClaim s n _)

theorem quiet_stopProgress (n : Node) : Quiet s (stopProgress s n) := by
  unfold stopProgress
  dsimp only
  split
  · refine .after (quiet_discardProgress _ n) ?_
    split
    · exact quiet_setStage s _ _
    · exact .refl s
  · exact .after (quiet_updProgress _ n _) (quiet_setStationChannel s n _)
  · exact .after (quiet_updProgress _ n _) (quiet_setStationChannel s n _)
  · exact .refl s

theorem quiet_stopVessel (v : VesselIx) : Quiet s (stopVessel s v) := by
  unfold stopVessel
  dsimp only
  split
  · rename_i hv _
    exact .after (quiet_putBack _ _ _) (.after (quiet_updVessel_closed _ v _ (by
      show s.vu.vessels[v].state ≠ _
      rw [hv]; decide) fun _ => by simp) (quiet_withdrawSample s _))
  · exact .after (quiet_putBack _ _ _) (quiet_closeValve s v _)
  · exact .refl s

theorem quiet_transfersStopped : Quiet s (transfersStopped s) :=
  (Quiet.foldl quiet_stopProgress _ s).trans (Quiet.foldl quiet_stopVessel _ _)

theorem quiet_resumeWindow (n : Node) : Quiet s (resumeWindow s n) := by
  unfold resumeWindow
  split
  · exact quiet_startWindow s n _ _ _
  · exact .refl s

/-! ### The chamber's samples, shares and holds -/

theorem quiet_judgeTrap : Quiet s (judgeTrap s) := { Quiet.refl s with }

theorem quiet_requestBaseline : Quiet s (requestBaseline s) := by
  unfold requestBaseline
  split
  · exact .after (quiet_requestSample _ _ _) { Quiet.refl s with }
  · exact .refl s

theorem quiet_withdrawCondensate : Quiet s (withdrawCondensate s) := { Quiet.refl s with }

theorem quiet_enterWeigh : Quiet s (enterWeigh s) := by
  unfold enterWeigh
  dsimp only
  split
  · exact .after (quiet_requestSample _ _ _) { Quiet.refl s with }
  · exact .after (quiet_requestSample _ _ _) { Quiet.refl s with }

theorem quiet_liftAbort : Quiet s (liftAbort s) := Quiet.foldl (fun s t => quiet_removeHold s t _) _ s

theorem quiet_clearShares : Quiet s (clearShares s) :=
  Quiet.foldl (f := fun s t => updRecord s t fun r => { r with foamShare := none })
    (fun s t => quiet_updRecord s t _ fun _ => .of_fields rfl rfl id rfl id id rfl id rfl id rfl (by simp)) _ s

/-- Shares that fit 16 bits are written. -/
theorem quiet_writeShares (shares : List Nat) (h : ∀ g ∈ shares, g ≤ 65535) : Quiet s (writeShares s shares) := by
  have key : ∀ (l : List (Tag × Nat)) (s : State), (∀ p ∈ l, p.2 ≤ 65535) →
      Quiet s (l.foldl (fun s p => updRecord s p.1 fun r => { r with foamShare := some p.2 }) s) := by
    intro l
    induction l with
    | nil => exact fun s _ => .refl s
    | cons p l ih =>
      intro s hl
      refine .after (ih _ fun q hq => hl q (List.mem_cons_of_mem _ hq))
        (quiet_updRecord s p.1 _ fun _ => .of_fields rfl rfl id rfl id id rfl id rfl id rfl fun _ g e => ?_)
      cases e
      exact hl p List.mem_cons_self
  exact key _ s fun p hp => h p.2 (List.of_mem_zip hp).2

end Sys2Proof.Machine
end

section
/-!
The chamber's phase entries and judgings. Each ends by judging the shredder drive, so that the interlock holds after it whatever the
phase was, and each stages its duties within the range of the working recipe (R82, R156, R157).
-/

namespace Sys2Proof.Machine

/-- SHRED_DRIVE is on only under the conditions of its interlock (R157). -/
def DriveSafe (s : State) : Prop :=
  s.cs.outputs.shredDrive = true →
    s.cs.phase = .shredding ∧ s.tu.door.filtered = true ∧ gasFailed s = false
      ∧ (∃ v : Int, latestO2 s = some v ∧ v ≤ s.cs.working.o2ShredMax)
      ∧ ∃ v : Int, effectiveLel s = some v ∧ v < s.cs.working.lelPause

theorem driveInterlocked_iff (s : State) : DriveInterlocked s ↔ SensorsAgree s ∧ DriveSafe s := Iff.rfl

/-- A chamber event: calm, and it keeps the sensors' agreement, the interlock and the duties. -/
structure Steady (s t : State) : Prop extends Calm s t where
  sensors : SensorsAgree s → SensorsAgree t
  drive : DriveInterlocked s → DriveInterlocked t
  duty : DutyInRange s → DutyInRange t

theorem Steady.refl (s : State) : Steady s s := ⟨.refl s, id, id, id⟩

theorem Steady.trans {s t u : State} (h : Steady s t) (k : Steady t u) : Steady s u :=
  ⟨h.toCalm.trans k.toCalm, k.sensors ∘ h.sensors, k.drive ∘ h.drive, k.duty ∘ h.duty⟩

/-- The same, the last operation first. -/
theorem Steady.after {s t u : State} (k : Steady t u) (h : Steady s t) : Steady s u := h.trans k

/-- A fold of steady operations is steady. -/
theorem Steady.foldl {α : Type} {f : State → α → State} (hf : ∀ s a, Steady s (f s a)) (l : List α) (s : State) :
    Steady s (l.foldl f s) := by
  induction l generalizing s with
  | nil => exact .refl s
  | cons a l ih => exact (hf s a).trans (ih (f s a))

/-! ### What the conditions on gas read -/

section
variable {s t : State} (hs : t.sn.sensors = s.sn.sensors) (hw : t.cs.working = s.cs.working)
include hs

theorem lelReading_congr (i : SensorIx) : lelReading t i = lelReading s i := by simp only [lelReading, hs]

include hw

theorem effectiveLel_congr : effectiveLel t = effectiveLel s := by
  have h : lelReading t = lelReading s := funext (lelReading_congr hs)
  simp only [effectiveLel, hw, h]

theorem latestO2_congr : latestO2 t = latestO2 s := by simp only [latestO2, hs, hw]

theorem gasFailed_congr : gasFailed t = gasFailed s := by
  simp only [gasFailed, o2Unusable, effectiveLel_congr hs hw, hs, hw]

end

theorem SensorsAgree.congr {s t : State} (hs : t.sn.sensors = s.sn.sensors) (hf : t.sn.inFlight = s.sn.inFlight)
    (h : SensorsAgree s) : SensorsAgree t := by
  simpa only [SensorsAgree, hs, hf] using h

theorem DriveSafe.congr {s t : State} (hs : t.sn.sensors = s.sn.sensors) (hw : t.cs.working = s.cs.working)
    (hp : t.cs.phase = s.cs.phase) (hd : t.tu.door.filtered = s.tu.door.filtered)
    (ho : t.cs.outputs.shredDrive = s.cs.outputs.shredDrive) (h : DriveSafe s) : DriveSafe t := by
  simpa only [DriveSafe, gasFailed_congr hs hw, latestO2_congr hs hw, effectiveLel_congr hs hw, hw, hp, hd, ho] using h

theorem Quiet.driveSafe {s t : State} (q : Quiet s t) (h : DriveSafe s) : DriveSafe t :=
  h.congr q.sensors q.working q.phase q.door q.drive

theorem Quiet.steady {s t : State} (q : Quiet s t) : Steady s t where
  toCalm := q.toCalm
  sensors := .congr q.sensors q.inFlight
  drive h := ⟨h.1.congr q.sensors q.inFlight, q.driveSafe h.2⟩
  duty h := by
    obtain ⟨hw, hst, hs, ha, hp⟩ := h
    exact ⟨q.working ▸ hw, q.staged ▸ hst, q.duty ▸ hs, q.applied hs ha, fun e => by rw [q.working, q.duty]; exact hp (q.phase ▸ e)⟩

variable (s : State)

/-! ### The drive and the outputs -/

/-- Once judged, the drive is on only under its interlock. -/
theorem driveSafe_judgeDrive : DriveSafe (judgeDrive s) := by
  intro h
  have hi : shredInterlock s = true := by
    simp only [judgeDrive, Bool.and_eq_true] at h
    exact h.2
  simp only [shredInterlock, Bool.and_eq_true, Bool.not_eq_true', beq_iff_eq, doorClosed, o2AtMost, lelAtLeast] at hi
  obtain ⟨⟨⟨⟨hp, hd⟩, -, ho⟩, hg⟩, hl⟩ := hi
  refine ⟨hp, hd, hg, ?_, ?_⟩
  · show ∃ v : Int, latestO2 s = some v ∧ v ≤ s.cs.working.o2ShredMax
    simpa [Option.any_eq_true] using ho
  · show ∃ v : Int, effectiveLel s = some v ∧ v < s.cs.working.lelPause
    have hsome : (effectiveLel s).isSome = true := by
      simp only [gasFailed, Bool.or_eq_false_iff] at hg
      simpa using hg.2
    obtain ⟨v, hv⟩ := Option.isSome_iff_exists.mp hsome
    refine ⟨v, hv, ?_⟩
    rw [hg, hv] at hl
    simpa using hl

theorem steady_judgeDrive : Steady s (judgeDrive s) where
  toCalm := { Calm.refl s with }
  sensors := id
  drive h := ⟨h.1, driveSafe_judgeDrive s⟩
  duty := id

/-- The driving of the plain outputs, of N2_PROP and of the shredder, with the staging of the entry's duty, touches the generator and
the outputs alone. -/
theorem drivePattern_frame : ∃ (p : Pwm) (o : Outputs), drivePattern s = { s with tu.pwm := p, cs.outputs := o } := by
  have hstage : ∃ p, stageEntry s = { s with tu.pwm := p } := by
    unfold stageEntry
    split
    · exact ⟨_, rfl⟩
    · exact ⟨s.tu.pwm, rfl⟩
  obtain ⟨p, hp⟩ := hstage
  unfold drivePattern
  rw [hp]
  generalize patternOf s.cs.working s.cs.phase = row
  dsimp only
  cases row.n2Prop with
  | off => exact ⟨_, _, rfl⟩
  | on => exact ⟨_, _, rfl⟩
  | pwm =>
    simp only [driveN2]
    split
    · exact ⟨_, _, rfl⟩
    · exact ⟨_, _, rfl⟩

/-- A duty limited by a recipe lies between duty_min and 256. -/
theorem limitDuty_range {r : Recipe} (h : r.dutyMin ≤ 256) (d : Int) : r.dutyMin ≤ limitDuty r d ∧ limitDuty r d ≤ 256 :=
  clampNat_range h d

/-- The generator's duties after N2_PROP is driven: the staged one stays, the applied one is it, 0 or stays. -/
theorem driveN2_duties (d : Drive) :
    (driveN2 s d).tu.pwm.staged = s.tu.pwm.staged
      ∧ ((driveN2 s d).tu.pwm.applied = s.tu.pwm.applied ∨ (driveN2 s d).tu.pwm.applied ≤ s.tu.pwm.staged) := by
  cases d with
  | off => exact ⟨rfl, .inr (Nat.zero_le _)⟩
  | on => exact ⟨rfl, .inr (Nat.zero_le _)⟩
  | pwm =>
    simp only [driveN2]
    split
    · exact ⟨rfl, .inl rfl⟩
    · exact ⟨rfl, .inr (Nat.le_refl _)⟩

/-- The duty staged at the entry into a phase is within range, and in SHREDDING it is staged. -/
theorem stageEntry_duty (hmin : s.cs.working.dutyMin ≤ 256) (hs : s.tu.pwm.staged ≤ 256) :
    (stageEntry s).tu.pwm.staged ≤ 256 ∧ (s.cs.phase = .shredding → s.cs.working.dutyMin ≤ (stageEntry s).tu.pwm.staged)
      ∧ (stageEntry s).tu.pwm.applied = s.tu.pwm.applied := by
  have hentry := limitDuty_range hmin s.cs.working.dutyBase
  unfold stageEntry
  split
  · refine ⟨Nat.min_le_right _ _, fun hp => ?_, rfl⟩
    simp only [stageDuty, stagedAtEntry, entryDuty, hp]
    exact Nat.le_min.mpr ⟨by simpa using hentry.1, hmin⟩
  · rename_i h
    exact ⟨hs, fun hp => absurd (by simp [entryStages, hp]) h, rfl⟩

/-- The duties after the outputs are driven. -/
theorem drivePattern_duty (hmin : s.cs.working.dutyMin ≤ 256) (hs : s.tu.pwm.staged ≤ 256) (ha : s.tu.pwm.applied ≤ 256) :
    (drivePattern s).tu.pwm.staged ≤ 256 ∧ (drivePattern s).tu.pwm.applied ≤ 256
      ∧ (s.cs.phase = .shredding → s.cs.working.dutyMin ≤ (drivePattern s).tu.pwm.staged) := by
  obtain ⟨h1, h2, h3⟩ := stageEntry_duty s hmin hs
  obtain ⟨k1, k2⟩ := driveN2_duties (drivePlain (stageEntry s) (patternOf s.cs.working s.cs.phase))
    (patternOf s.cs.working s.cs.phase).n2Prop
  have e1 : (drivePattern s).tu.pwm.staged = (stageEntry s).tu.pwm.staged := k1
  have e2 : (drivePattern s).tu.pwm.applied = (stageEntry s).tu.pwm.applied
      ∨ (drivePattern s).tu.pwm.applied ≤ (stageEntry s).tu.pwm.staged := k2
  exact ⟨by omega, by omega, fun hp => by have := h2 hp; omega⟩

/-! ### Phase entries -/

theorem steady_enterPhase (p : Phase) (c : PhaseCause) : Steady s (enterPhase s p c) ∧ DriveSafe (enterPhase s p c) := by
  obtain ⟨w, o, hf⟩ := drivePattern_frame { s with cs.phase := p }
  have hn := quiet_toSupervisor (drivePattern { s with cs.phase := p })
    (.phase s.cs.phase p c (batchNumber (drivePattern { s with cs.phase := p })) (drivePattern { s with cs.phase := p }).cs.batchList.length)
  have hsafe : DriveSafe (drivePattern { s with cs.phase := p }) := driveSafe_judgeDrive _
  have hstep : Steady s (drivePattern { s with cs.phase := p }) :=
    { Calm.refl s with
      line := by rw [hf]
      requests := by rw [hf]
      answers := by rw [hf]
      notices := by rw [hf]; exact id
      cfg := by rw [hf]
      records := fun _ => by rw [hf]; exact same_records s
      zu := by rw [hf]
      claims := by rw [hf]; exact fun _ => rfl
      vessels := by rw [hf]; exact fun _ => id
      batchList := by rw [hf]
      batchCounter := by rw [hf]
      sensors := .congr (by rw [hf]) (by rw [hf])
      drive := fun h => ⟨h.1.congr (by rw [hf]) (by rw [hf]), hsafe⟩
      duty := by
        rintro ⟨hw, hst, hs, ha, -⟩
        obtain ⟨d1, d2, d3⟩ := drivePattern_duty { s with cs.phase := p } hw hs ha
        have ew : (drivePattern { s with cs.phase := p }).cs.working = s.cs.working := by rw [hf]
        have es : (drivePattern { s with cs.phase := p }).cs.staged = s.cs.staged := by rw [hf]
        have ep : (drivePattern { s with cs.phase := p }).cs.phase = p := by rw [hf]
        exact ⟨ew ▸ hw, es ▸ hst, d1, d2, fun h => by rw [ew]; exact d3 (ep.symm.trans h)⟩ }
  exact ⟨hstep.trans hn.steady, hn.driveSafe hsafe⟩

/-- A phase entry after quiet preparations. -/
theorem Quiet.enterPhase {s t : State} (q : Quiet s t) (p : Phase) (c : PhaseCause) :
    Steady s (enterPhase t p c) ∧ DriveSafe (enterPhase t p c) :=
  ⟨q.steady.trans (steady_enterPhase t p c).1, (steady_enterPhase t p c).2⟩

theorem steady_enterAborted (c : PhaseCause) : Steady s (enterAborted s c) := by
  have hprep : Quiet s (withdrawCondensate (stopChamberChannels s)) :=
    (quiet_stopChamberChannels s).trans (quiet_withdrawCondensate _)
  exact (hprep.enterPhase _ _).1.trans (Quiet.foldl (fun s t => quiet_raiseHold s t _ _ _) _ _).steady

theorem steady_chamberStopped : Steady s (chamberStopped s) := by
  unfold chamberStopped
  split
  · exact .refl s
  · exact ((quiet_withdrawCondensate s).enterPhase _ _).1

theorem steady_enterPurging (c : PhaseCause) : Steady s (enterPurging s c) := by
  have hprep : Quiet s (startPhase { s with cs.purgeMinDone := false } s.cs.working.purgeMin) := { Quiet.refl s with }
  exact (hprep.enterPhase _ _).1

theorem steady_enterSealing (c : PhaseCause) : Steady s (enterSealing s c) := by
  have hs := ((quiet_startPhase s s.cs.working.sealTimeout).enterPhase .sealing c).1
  unfold enterSealing
  dsimp only
  split
  · exact hs.trans (steady_enterPurging _ _)
  · exact hs

theorem steady_enterPaused (c : PhaseCause) : Steady s (enterPaused s c) := by
  have hprep : Quiet s { s with
      tu.phase := chFreeze s.clock s.tu.phase, tu.pause := chStart (s.clock + sec s.cs.working.pauseMax) } :=
    { Quiet.refl s with }
  exact (hprep.enterPhase _ _).1

/-- A duty staged within the limits of the working recipe. -/
theorem steady_stageDuty (d : Nat) (hd : s.cs.working.dutyMin ≤ 256 → s.cs.working.dutyMin ≤ d) : Steady s (stageDuty s d) where
  toCalm := { Calm.refl s with }
  sensors := id
  drive h := ⟨h.1, h.2⟩
  duty := by
    rintro ⟨hw, hst, -, ha, -⟩
    exact ⟨hw, hst, Nat.min_le_right _ _, ha, fun _ => Nat.le_min.mpr ⟨hd hw, hw⟩⟩

theorem steady_stageNitrogen : Steady s (stageNitrogen s) := by
  unfold stageNitrogen
  split
  · exact steady_stageDuty s _ fun h => (limitDuty_range h _).1
  · exact .refl s

theorem steady_judgeShredding (l : Bool) : Steady s (judgeShredding s l) := by
  unfold judgeShredding
  split
  · exact steady_enterAborted s _
  · split
    · exact steady_enterPaused s _
    · split
      · exact steady_stageNitrogen s
      · exact .refl s

theorem steady_enterShredding : Steady s (enterShredding s) := by
  have hprep : Quiet s (startPhase { s with cs.shredDone := false } s.cs.working.shredTime) := { Quiet.refl s with }
  exact (hprep.enterPhase _ _).1.trans (steady_judgeShredding _ _)

theorem steady_enterCondensing (c : PhaseCause) : Steady s (enterCondensing s c) := by
  have hprep : Quiet s { s with cs.step := .cooling, tu.phase := chStartFrozen (s.cs.working.condenseTime * 1000) } :=
    { Quiet.refl s with }
  exact (hprep.enterPhase _ _).1.trans ((quiet_requestBaseline _).trans (quiet_judgeTrap _)).steady

theorem steady_judgePaused (l : Bool) : Steady s (judgePaused s l) := by
  unfold judgePaused
  split
  · exact steady_enterAborted s _
  · split
    · have hq : Quiet s { s with tu.pause := chStopped } := { Quiet.refl s with }
      dsimp only
      split
      · exact hq.steady.trans (steady_enterCondensing _ _)
      · have hq' : Quiet s { s with tu.pause := chStopped, tu.phase := chResume s.clock s.tu.phase } := { Quiet.refl s with }
        exact (hq'.enterPhase _ _).1.trans (steady_judgeShredding _ _)
    · exact .refl s

theorem steady_enterUnloading (c : PhaseCause) : Steady s (enterUnloading s c) := ((quiet_startPhase s _).enterPhase _ c).1

/-! ### The foam booking -/

/-- The floor shares and what is left over make up the total, so a share never exceeds it (R135). -/
theorem floorShares_sum_le (total : Nat) (ws : List Nat) : ((floorShares total ws).map (·.1)).sum ≤ total := by
  have hsum : ∀ (n : Nat) (l : List Nat), (l.map fun w => total * w / n).sum * n ≤ total * l.sum := by
    intro n l
    induction l with
    | nil => simp
    | cons w l ih =>
      have := Nat.div_mul_le_self (total * w) n
      simp only [List.map_cons, List.sum_cons, Nat.add_mul, Nat.mul_add]
      omega
  have hmap : (floorShares total ws).map (·.1) = ws.map fun w => total * w / ws.sum := by simp [floorShares]
  rw [hmap]
  rcases Nat.eq_zero_or_pos ws.sum with h0 | hpos
  · simp [h0]
  · exact Nat.le_of_mul_le_mul_right (hsum ws.sum ws) hpos

/-- No share of a batch exceeds the total (R135). -/
theorem apportion_le {total : Nat} {ws : List Nat} {g : Nat} (hg : g ∈ apportion total ws) : g ≤ total := by
  unfold apportion at hg
  obtain ⟨i, hi, rfl⟩ := List.mem_map.mp hg
  have hlen : i < (floorShares total ws).length := List.mem_range.mp hi
  have hle := floorShares_sum_le total ws
  have hone : ((floorShares total ws).getD i (0, 0)).1 ≤ ((floorShares total ws).map (·.1)).sum := by
    apply List.le_sum_of_mem
    rw [List.getD_eq_getElem _ _ hlen]
    exact List.mem_map_of_mem (List.getElem_mem hlen)
  split <;> omega

theorem steady_foamBooking (g : Option Int) : Steady s (foamBooking s g) := by
  unfold foamBooking
  dsimp only
  refine .after (steady_enterUnloading _ _) ?_
  split
  · rename_i g b
    refine .after (quiet_writeShares _ _ fun x hx => ?_).steady (Quiet.steady { Quiet.refl s with })
    exact (apportion_le hx).trans (clampNat_range (by decide) _).2
  · exact .after (quiet_clearShares _).steady (Quiet.steady { Quiet.refl s with })

theorem steady_condensateAnswer (g : Option Int) : Steady s (condensateAnswer s g) := by
  unfold condensateAnswer
  split
  · split
    · exact Quiet.steady { Quiet.refl s with }
    · split
      · exact steady_foamBooking s g
      · exact .refl s
  · exact .refl s

theorem steady_takeAnswer (r : Requester) (g : Option Int) : Steady s (takeAnswer s r g) := by
  cases r with
  | vessel v => exact (quiet_vesselAnswer s v g).steady
  | condensate => exact steady_condensateAnswer s g

/-! ### Samples, door changes and expiries -/

theorem steady_chamberSensor (i : SensorIx) (b : Bool) : Steady s (chamberSensor s i b) := by
  unfold chamberSensor
  dsimp only
  refine .after (steady_judgeDrive _) ?_
  split
  · split
    · exact steady_enterAborted s _
    · split
      · exact steady_enterShredding s
      · exact .refl s
  · split
    · exact steady_judgeShredding s _
    · exact .refl s
  · split
    · exact steady_judgePaused s _
    · exact .refl s
  · split
    · exact steady_enterAborted s _
    · split
      · exact (quiet_judgeTrap s).steady
      · exact .refl s
  · exact .refl s

theorem steady_chamberDoor : Steady s (chamberDoor s) := by
  unfold chamberDoor
  refine .after (steady_judgeDrive _) ?_
  split
  · split
    · exact steady_enterPurging s _
    · exact .refl s
  · split
    · exact .refl s
    · exact steady_enterSealing s _
  · exact steady_judgeShredding s _
  · exact steady_judgePaused s _
  · split
    · exact .refl s
    · exact steady_enterAborted s _
  · exact .refl s

theorem steady_pauseExpired : Steady s (pauseExpired s) := by
  unfold pauseExpired
  split
  · exact steady_enterAborted s _
  · exact .refl s

theorem steady_restartChamber : Steady s (restartChamber s) := (quiet_liftAbort s).steady.trans (steady_enterPurging _ _)

theorem steady_clearChamber : Steady s (clearChamber s) := by
  have hmarks : ∀ u : State, Quiet u { u with cs.total := none, cs.baseline := .none } := fun u => { Quiet.refl u with }
  exact (((quiet_liftAbort s).trans (quiet_clearShares _)).trans (hmarks _)).steady.trans (steady_enterUnloading _ _)

/-! ### Samples handed on -/

theorem steady_answerRequest (r : SampleRequest) (g : Option Int) : Steady s (answerRequest s r g) := by
  unfold answerRequest
  split
  · exact .after (steady_takeAnswer _ _ _) (Quiet.steady { Quiet.refl s with })
  · exact .refl s

theorem steady_handOutcome (i : SensorIx) (b : Bool) (g : Option Int) : Steady s (handOutcome s i b g) :=
  (steady_chamberSensor s i b).trans (Steady.foldl (fun s r => steady_answerRequest s r g) _ _)

/-- The drive is judged when an outcome is handed on, whatever the sensors have become. -/
theorem driveInterlocked_handOutcome (i : SensorIx) (b : Bool) (g : Option Int) (h : SensorsAgree s) :
    DriveInterlocked (handOutcome s i b g) :=
  (Steady.foldl (fun s r => steady_answerRequest s r g) _ _).drive ⟨(steady_chamberSensor s i b).sensors h, driveSafe_judgeDrive _⟩

/-- A sensor entry is changed and its outcome handed on: all that is needed is that the entry's change keeps the sensors' agreement. -/
theorem steady_handed {s u : State} (hc : Calm s u) (hd : DutyInRange s → DutyInRange u) (hs : SensorsAgree s → SensorsAgree u)
    (i : SensorIx) (b : Bool) (g : Option Int) : Steady s (handOutcome u i b g) where
  toCalm := hc.trans (steady_handOutcome u i b g).toCalm
  sensors := (steady_handOutcome u i b g).sensors ∘ hs
  drive h := driveInterlocked_handOutcome u i b g (hs h.1)
  duty := (steady_handOutcome u i b g).duty ∘ hd

end Sys2Proof.Machine
end

section
/-!
Where the cabinets stand (R24, R26, R27): the zones as one family of lists over the places, what a movement from one place to another
does to them, and the invariants as every event keeps them together.
-/

namespace Sys2Proof.Machine

/-! ### The places -/

/-- Every place, once. -/
def places : List Place :=
  [.intake, .lane .a, .lane .b, .lane .c, .buffer, .chamber, .exit] ++ allNodes.map .station

theorem mem_places (p : Place) : p ∈ places := by
  cases p with
  | lane l => cases l <;> decide
  | station n => revert n; decide
  | intake => decide
  | buffer => decide
  | chamber => decide
  | exit => decide

theorem places_nodup : places.Nodup := by decide

/-- The node of a station position. -/
def stationOf : Place → Option Node
  | .station n => some n
  | _ => none

theorem stationOf_eq_some {p : Place} {n : Node} : stationOf p = some n ↔ p = .station n := by
  cases p <;> simp [stationOf]

variable (s : State)

theorem stations_toList : s.stations.toList = allNodes.map fun n => s.stations[n] := by
  apply List.ext_getElem
  · simp [allNodes]
  · intro i h1 h2
    have hi : i < 12 := by simpa using h1
    have hn : ∀ (i : Nat) (h : i < 12), allNodes[i]'(by simpa [allNodes] using h) = ⟨i, h⟩ := by decide
    rw [List.getElem_map, hn i hi]
    rfl

/-- The zones of R24 are the lists of the places. -/
theorem tagsInZones_eq : tagsInZones s = places.flatMap (zoneList s) := by
  have hclaims : s.stations.toList.filterMap (·.claim) = (allNodes.map .station).flatMap (zoneList s) := by
    rw [stations_toList, List.filterMap_map, List.flatMap_map, List.filterMap_eq_flatMap_toList]
    rfl
  rw [tagsInZones, hclaims, places, List.flatMap_append]
  simp [zoneList, LaneTab.get]

theorem count_tagsInZones (a : Tag) : (tagsInZones s).count a = (places.map fun p => (zoneList s p).count a).sum := by
  rw [tagsInZones_eq, List.count_flatMap]
  rfl

/-- Two sums over distinct places that agree but at one place. -/
theorem sum_changed_at {l : List Place} {f g : Place → Nat} {p : Place} (hl : l.Nodup) (hp : p ∈ l)
    (h : ∀ x, x ≠ p → g x = f x) : (l.map g).sum + f p = (l.map f).sum + g p := by
  induction l with
  | nil => cases hp
  | cons x l ih =>
    rw [List.nodup_cons] at hl
    simp only [List.map_cons, List.sum_cons]
    rcases List.mem_cons.mp hp with rfl | hm
    · have : l.map g = l.map f := List.map_congr_left fun y hy => h y fun e => hl.1 (e ▸ hy)
      rw [this]
      omega
    · have hx : g x = f x := h x fun e => hl.1 (e ▸ hm)
      have := ih hl.2 hm
      omega

/-! ### The zones of a state -/

/-- Everything the manual says of where the cabinets stand, and of the passages through the gates. -/
def Standing : Prop := TagsDistinct s ∧ GatesAgree s ∧ CabinetsStandOnce s ∧ PassagesAgree s

variable {s : State}

theorem mem_zoneList_station {n : Node} {t : Tag} : t ∈ zoneList s (.station n) ↔ s.stations[n].claim = some t := by
  simp [zoneList, Option.mem_toList]

section
variable (hd : TagsDistinct s) (hz : (tagsInZones s).Perm (s.records.map (·.tag)))
include hd hz

theorem zones_nodup : (places.flatMap (zoneList s)).Nodup := by
  rw [← tagsInZones_eq]
  exact hz.nodup_iff.mpr hd.1

theorem zoneList_nodup (p : Place) : (zoneList s p).Nodup :=
  (List.nodup_flatMap.mp (zones_nodup hd hz)).1 p (mem_places p)

/-- No tag stands at two places. -/
theorem place_unique {t : Tag} {p q : Place} (hp : t ∈ zoneList s p) (hq : t ∈ zoneList s q) : p = q := by
  by_contra hne
  have hpair := (List.nodup_flatMap.mp (zones_nodup hd hz)).2
  have hsymm : Std.Symm (Function.onFun List.Disjoint (zoneList s)) := ⟨fun _ _ h => h.symm⟩
  exact hpair.forall (mem_places p) (mem_places q) hne hp hq

end

/-- What stands somewhere is a record of the table. -/
theorem record_of_mem_zone (hz : (tagsInZones s).Perm (s.records.map (·.tag))) {t : Tag} {p : Place} (hp : t ∈ zoneList s p) : ∃ r ∈ s.records, r.tag = t := by
  have hm : t ∈ tagsInZones s := by
    rw [tagsInZones_eq]
    exact List.mem_flatMap.mpr ⟨p, mem_places p, hp⟩
  exact List.mem_map.mp (hz.mem_iff.mp hm)

/-- Every record of the table stands somewhere. -/
theorem zone_of_record (hz : (tagsInZones s).Perm (s.records.map (·.tag))) {r : Record} (hr : r ∈ s.records) :
    ∃ p, r.tag ∈ zoneList s p := by
  have hm : r.tag ∈ tagsInZones s := hz.mem_iff.mpr (List.mem_map_of_mem hr)
  rw [tagsInZones_eq] at hm
  obtain ⟨p, -, hp⟩ := List.mem_flatMap.mp hm
  exact ⟨p, hp⟩

/-- A record's station field is the node of the place where it stands (R27, R50). -/
theorem station_eq_of_mem (hd : TagsDistinct s) (hc : CabinetsStandOnce s) {r : Record} {p : Place} (hr : r ∈ s.records)
    (hp : r.tag ∈ zoneList s p) : r.station = stationOf p := by
  obtain ⟨hz, -, hst⟩ := hc
  apply Option.ext
  intro n
  rw [hst r hr n, ← mem_zoneList_station, stationOf_eq_some]
  exact ⟨fun hn => place_unique hd hz hp hn, fun e => e ▸ hp⟩

/-! ### Out of one list, into another -/

section
variable (s : State) (p : Place) (t : Tag)

theorem zoneList_takeOut_same (h : t ∈ zoneList s p) : zoneList (takeOut s p t) p = (zoneList s p).filter (· != t) := by
  cases p with
  | station n =>
    have hc := mem_zoneList_station.mp h
    simp only [zoneList, hc]
    simp [takeOut, updStation]
  | lane l => simp [takeOut, zoneList]
  | intake => rfl
  | buffer => rfl
  | chamber => rfl
  | exit => rfl

theorem zoneList_takeOut_other {x : Place} (h : x ≠ p) : zoneList (takeOut s p t) x = zoneList s x := by
  cases p with
  | station n =>
    cases x with
    | station m =>
      have hm : n.val ≠ m.val := fun e => h (by rw [Fin.ext e])
      simp [takeOut, zoneList, updStation, hm]
    | _ => rfl
  | lane l =>
    cases x with
    | lane m => exact LaneTab.get_set_other _ (fun e => h (by rw [e])) _
    | _ => rfl
  | _ => cases x <;> first | rfl | exact absurd rfl h

theorem zoneList_putTail_same (h : (stationOf p).isSome → zoneList s p = []) : zoneList (putTail s p t) p = zoneList s p ++ [t] := by
  cases p with
  | station n =>
    rw [h rfl]
    simp [putTail, zoneList, updStation]
  | lane l => simp [putTail, zoneList]
  | intake => rfl
  | buffer => rfl
  | chamber => rfl
  | exit => rfl

theorem zoneList_putTail_other {x : Place} (h : x ≠ p) : zoneList (putTail s p t) x = zoneList s x := by
  cases p with
  | station n =>
    cases x with
    | station m =>
      have hm : n.val ≠ m.val := fun e => h (by rw [Fin.ext e])
      simp [putTail, zoneList, updStation, hm]
    | _ => rfl
  | lane l =>
    cases x with
    | lane m => exact LaneTab.get_set_other _ (fun e => h (by rw [e])) _
    | _ => rfl
  | _ => cases x <;> first | rfl | exact absurd rfl h

end

end Sys2Proof.Machine
end

section
/-!
Every invariant kept at once, and the movements of cabinets: a record that goes from one place to another, that joins the table, or that
leaves it.
-/

namespace Sys2Proof.Machine

/-! ### What an event keeps -/

/-- The table and the counters on which its ranges rest. -/
def TableSound (s : State) : Prop := TagsDistinct s ∧ RecordsInRange s ∧ CountersInRange s

/-- Every invariant of s holds in t, and no queue of LP has grown past its depth. -/
structure Keeps (s t : State) : Prop where
  requests : t.lp.requests.length ≤ s.lp.requests.length
  answers : t.lp.answers.length ≤ s.lp.answers.length
  notices : s.lp.notices.length ≤ 16 → t.lp.notices.length ≤ 16
  valves : ValvesFollowState s → ValvesFollowState t
  gates : GatesAgree s → GatesAgree t
  drive : DriveInterlocked s → DriveInterlocked t
  duty : DutyInRange s → DutyInRange t
  table : TableSound s → TableSound t
  config : ConfigInRange s → ConfigInRange t
  standing : Standing s → Standing t

theorem Keeps.refl (s : State) : Keeps s s := ⟨le_rfl, le_rfl, id, id, id, id, id, id, id, id⟩

theorem Keeps.trans {s t u : State} (h : Keeps s t) (k : Keeps t u) : Keeps s u :=
  ⟨k.requests.trans h.requests, k.answers.trans h.answers, k.notices ∘ h.notices, k.valves ∘ h.valves, k.gates ∘ h.gates,
    k.drive ∘ h.drive, k.duty ∘ h.duty, k.table ∘ h.table, k.config ∘ h.config, k.standing ∘ h.standing⟩

/-- The same, the last operation first. -/
theorem Keeps.after {s t u : State} (k : Keeps t u) (h : Keeps s t) : Keeps s u := h.trans k

/-- The parts of the state that no movement of cabinets touches. -/
structure Apart (s t : State) : Prop where
  requests : t.lp.requests.length ≤ s.lp.requests.length
  answers : t.lp.answers.length ≤ s.lp.answers.length
  notices : s.lp.notices.length ≤ 16 → t.lp.notices.length ≤ 16
  cfg : t.cfg = s.cfg
  vessels : ∀ v : VesselIx, ValveFits s.vu.vessels[v] → ValveFits t.vu.vessels[v]
  drive : DriveInterlocked s → DriveInterlocked t
  duty : DutyInRange s → DutyInRange t

theorem Apart.refl (s : State) : Apart s s := ⟨le_rfl, le_rfl, id, rfl, fun _ => id, id, id⟩

theorem Apart.trans {s t u : State} (h : Apart s t) (k : Apart t u) : Apart s u :=
  ⟨k.requests.trans h.requests, k.answers.trans h.answers, k.notices ∘ h.notices, k.cfg.trans h.cfg,
    fun v => k.vessels v ∘ h.vessels v, k.drive ∘ h.drive, k.duty ∘ h.duty⟩

theorem Steady.apart {s t : State} (h : Steady s t) : Apart s t :=
  ⟨h.requests ▸ le_rfl, h.answers ▸ le_rfl, h.notices, h.cfg, h.vessels, h.drive, h.duty⟩

theorem Quiet.apart {s t : State} (h : Quiet s t) : Apart s t := h.steady.apart

/-- The configuration's ranges are read from the tables alone. -/
theorem ConfigInRange.congr {s t : State} (h : t.cfg = s.cfg) (hc : ConfigInRange s) : ConfigInRange t := by
  have hcap : ∀ z, capacity t (capPlace z) = capacity s (capPlace z) := by
    intro z
    cases z <;> simp [capacity, capPlace, h]
  simpa only [ConfigInRange, h, hcap] using hc

theorem Apart.keeps {s t : State} (h : Apart s t) (gates : GatesAgree s → GatesAgree t) (table : TableSound s → TableSound t)
    (standing : Standing s → Standing t) : Keeps s t :=
  ⟨h.requests, h.answers, h.notices, fun hv v => h.vessels v (hv v), gates, h.drive, h.duty, table, .congr h.cfg, standing⟩

/-! ### Sound tables -/

/-- Records that keep their tags, hold sets and ranges, over counters that keep theirs. -/
theorem TableSound.of_map {s t : State} {g : Record → Record} (hr : t.records = s.records.map g)
    (hg : ∀ r ∈ s.records, (g r).tag = r.tag ∧ (HoldsOnce r → HoldsOnce (g r)) ∧ (RecordInRange r → RecordInRange (g r)))
    (hc : CountersInRange s → CountersInRange t) (h : TableSound s) : TableSound t := by
  obtain ⟨⟨hn, hs⟩, hrange, hcount⟩ := h
  have hmem : ∀ x ∈ t.records, ∃ r ∈ s.records, g r = x := fun x hx => List.mem_map.mp (hr ▸ hx)
  refine ⟨⟨?_, fun x hx => ?_⟩, fun x hx => ?_, hc hcount⟩
  · rw [hr, List.map_map]
    exact (List.map_congr_left fun r h => (hg r h).1) ▸ hn
  · obtain ⟨r, hm, rfl⟩ := hmem x hx
    obtain ⟨h1, h2, -⟩ := hg r hm
    exact ⟨h1 ▸ (hs r hm).1, h2 (hs r hm).2⟩
  · obtain ⟨r, hm, rfl⟩ := hmem x hx
    exact (hg r hm).2.2 (hrange r hm)

/-- Distinct tags and hold sets pass to records that keep theirs. -/
theorem TagsDistinct.of_map {s t : State} {g : Record → Record} (hr : t.records = s.records.map g)
    (hg : ∀ r ∈ s.records, (g r).tag = r.tag ∧ (HoldsOnce r → HoldsOnce (g r))) (h : TagsDistinct s) : TagsDistinct t := by
  obtain ⟨hn, hs⟩ := h
  refine ⟨?_, fun x hx => ?_⟩
  · rw [hr, List.map_map]
    exact (List.map_congr_left fun r h => (hg r h).1) ▸ hn
  · obtain ⟨r, hm, rfl⟩ := List.mem_map.mp (hr ▸ hx)
    obtain ⟨h1, h2⟩ := hg r hm
    exact ⟨h1 ▸ (hs r hm).1, h2 (hs r hm).2⟩

/-! ### Calm events stand -/

section
variable {s t : State} (zu : t.zu = s.zu) (claims : ∀ n : Node, t.stations[n].claim = s.stations[n].claim) (cfg : t.cfg = s.cfg)

include zu claims in
theorem zoneList_of_same (p : Place) : zoneList t p = zoneList s p := by
  cases p <;> simp only [zoneList, zu, claims]

include cfg in
theorem capacity_of_same (p : Place) : capacity t p = capacity s p := by cases p <;> simp only [capacity, cfg]

include zu claims cfg in
/-- The cabinets stand as they did when the lists, the claims and the records' tags and stations stay. -/
theorem Standing.of_records {g : Record → Record} (hr : t.records = s.records.map g)
    (hg : ∀ r ∈ s.records, (g r).tag = r.tag ∧ (g r).station = r.station ∧ (HoldsOnce r → HoldsOnce (g r)))
    (line : t.line.state = s.line.state) (batch : t.cs.batchList = s.cs.batchList) (hs : Standing s) : Standing t := by
  obtain ⟨hd, hgates, ⟨hz, hcap, hst⟩, hp⟩ := hs
  refine ⟨hd.of_map hr fun r hm => ⟨(hg r hm).1, (hg r hm).2.2⟩, by simpa only [GatesAgree, zu] using hgates, ⟨?_, ?_, ?_⟩, ?_⟩
  · have htags : t.records.map (·.tag) = s.records.map (·.tag) := by
      rw [hr, List.map_map]
      exact List.map_congr_left fun r hm => (hg r hm).1
    have hzones : zoneList t = zoneList s := funext (zoneList_of_same zu claims)
    rw [htags, tagsInZones_eq, hzones, ← tagsInZones_eq]
    exact hz
  · intro p
    have hres : hasReserved t p = hasReserved s p := by simp only [hasReserved, zu]
    rw [zoneList_of_same zu claims, hres, capacity_of_same cfg]
    exact hcap p
  · intro x hx n
    obtain ⟨r, hm, rfl⟩ := List.mem_map.mp (hr ▸ hx)
    obtain ⟨htag, hstation, -⟩ := hg r hm
    rw [htag, hstation, claims]
    exact hst r hm n
  · simpa only [PassagesAgree, zu, line, batch] using hp

end

section
variable {s t : State} (h : Calm s t)
include h

theorem Calm.gates (hg : GatesAgree s) : GatesAgree t := by simpa only [GatesAgree, h.zu] using hg

theorem Calm.table (ht : TableSound s) : TableSound t := by
  obtain ⟨g, hr, hg⟩ := h.records ((tagsDistinct_iff s).mp ht.1).1
  refine ht.of_map hr (fun r hm => ⟨(hg r hm).tag, (hg r hm).holds, (hg r hm).range⟩) fun hc => ?_
  simpa only [CountersInRange, h.cfg, h.batchCounter, h.batchList] using hc

theorem Calm.standing (hs : Standing s) : Standing t := by
  obtain ⟨g, hr, hg⟩ := h.records ((tagsDistinct_iff s).mp hs.1).1
  exact hs.of_records h.zu h.claims h.cfg hr (fun r hm => ⟨(hg r hm).tag, (hg r hm).station, (hg r hm).holds⟩) h.line h.batchList

end

theorem Steady.keeps {s t : State} (h : Steady s t) : Keeps s t := h.apart.keeps h.gates h.table h.standing

theorem Quiet.keeps {s t : State} (h : Quiet s t) : Keeps s t := h.steady.keeps

/-! ### Movements -/

/-- A record moves from place p to place q, and its station field follows. -/
structure Moved (s u : State) (t : Tag) (p q : Place) : Prop where
  stood : t ∈ zoneList s p
  ne : p ≠ q
  left : zoneList u p = (zoneList s p).filter (· != t)
  entered : (zoneList u q).Perm (t :: zoneList s q)
  others : ∀ x, x ≠ p → x ≠ q → zoneList u x = zoneList s x
  records : ∃ g : Record → Record, u.records = s.records.map g ∧ ∀ r ∈ s.records,
    (g r).tag = r.tag ∧ (HoldsOnce r → HoldsOnce (g r)) ∧ (RecordInRange r → RecordInRange (g r))
      ∧ (g r).station = if r.tag = t then stationOf q else r.station

section
variable {s u : State} {t : Tag} {p q : Place} (h : Moved s u t p q)
include h

theorem Moved.tags : u.records.map (·.tag) = s.records.map (·.tag) := by
  obtain ⟨g, hr, hg⟩ := h.records
  rw [hr, List.map_map]
  exact List.map_congr_left fun r hm => (hg r hm).1

theorem Moved.table (hc : CountersInRange s → CountersInRange u) (ht : TableSound s) : TableSound u := by
  obtain ⟨g, hr, hg⟩ := h.records
  exact ht.of_map hr (fun r hm => ⟨(hg r hm).1, (hg r hm).2.1, (hg r hm).2.2.1⟩) hc

theorem Moved.tagsDistinct (hd : TagsDistinct s) : TagsDistinct u := by
  obtain ⟨g, hr, hg⟩ := h.records
  exact hd.of_map hr fun r hm => ⟨(hg r hm).1, (hg r hm).2.1⟩

/-- The movement takes the tag from one list and adds it to another: no tag is lost or doubled. -/
theorem Moved.perm (hd : TagsDistinct s) (hz : (tagsInZones s).Perm (s.records.map (·.tag))) :
    (tagsInZones u).Perm (u.records.map (·.tag)) := by
  rw [h.tags]
  refine List.Perm.trans (List.perm_iff_count.mpr fun a => ?_) hz
  rw [count_tagsInZones, count_tagsInZones]
  -- the sums differ at p and at q only; pass through the lists with p emptied of t
  let f : Place → Nat := fun x => (zoneList s x).count a
  let m : Place → Nat := fun x => if x = p then ((zoneList s p).filter (· != t)).count a else (zoneList s x).count a
  let e : Place → Nat := fun x => (zoneList u x).count a
  have h1 := sum_changed_at (f := f) (g := m) places_nodup (mem_places p) fun x hx => if_neg hx
  have h2 := sum_changed_at (f := m) (g := e) places_nodup (mem_places q) fun x hx => by
    by_cases hxp : x = p
    · subst hxp; simp only [m, e, if_true, h.left]
    · simp only [m, e, if_neg hxp, h.others x hxp hx]
  have hq : e q = (if a = t then 1 else 0) + f q := by
    simp only [e, f, h.entered.count_eq, List.count_cons, beq_iff_eq, eq_comm (a := t)]
    omega
  have hmq : m q = f q := if_neg h.ne.symm
  have hmp : m p + (if a = t then 1 else 0) = f p := by
    simp only [m, f, if_true]
    by_cases ha : a = t
    · subst ha
      rw [List.count_eq_one_of_mem (zoneList_nodup hd hz p) h.stood, if_pos rfl, List.count_eq_zero_of_not_mem (by simp)]
    · rw [List.count_filter (by simpa using ha), if_neg ha]
      rfl
  show (places.map e).sum = (places.map f).sum
  omega

/-- The station fields and the claims still name each other. -/
theorem Moved.stations (hd : TagsDistinct s) (hc : CabinetsStandOnce s) :
    ∀ r ∈ u.records, ∀ n : Node, r.station = some n ↔ u.stations[n].claim = some r.tag := by
  obtain ⟨g, hr, hg⟩ := h.records
  intro x hx n
  obtain ⟨r, hm, rfl⟩ := List.mem_map.mp (hr ▸ hx)
  obtain ⟨htag, -, -, hst⟩ := hg r hm
  have hold : r.station = some n ↔ r.tag ∈ zoneList s (.station n) := by rw [hc.2.2 r hm n, mem_zoneList_station]
  rw [← mem_zoneList_station, htag, hst]
  by_cases hp : Place.station n = p
  · -- the position that was left
    rw [hp, h.left]
    by_cases ht : r.tag = t
    · rw [if_pos ht, ht]
      constructor
      · intro hq
        exact absurd (hp.symm.trans (stationOf_eq_some.mp hq).symm) h.ne
      · intro hf
        simp at hf
    · rw [if_neg ht, hold, hp]
      simp [ht]
  · by_cases hq : Place.station n = q
    · -- the position that was entered
      rw [hq, h.entered.mem_iff]
      by_cases ht : r.tag = t
      · rw [if_pos ht, ← hq]
        exact ⟨fun _ => by simp [ht], fun _ => rfl⟩
      · rw [if_neg ht, hold, hq]
        simp [ht]
    · rw [h.others _ hp hq]
      by_cases ht : r.tag = t
      · rw [if_pos ht, ht]
        exact ⟨fun e => absurd (stationOf_eq_some.mp e).symm hq, fun hm' => absurd (place_unique hd hc.1 hm' h.stood) hp⟩
      · rw [if_neg ht, hold]

/-- A movement into a place with room keeps the capacities. -/
theorem Moved.capacities (hcap : ∀ x : Place, (zoneList s x).length + (if hasReserved s x then 1 else 0) ≤ capacity s x)
    (hcfg : ∀ x, capacity u x = capacity s x) (hres : ∀ x, x ≠ q → hasReserved u x = true → hasReserved s x = true)
    (hroom : (zoneList s q).length + 1 + (if hasReserved u q then 1 else 0) ≤ capacity s q) :
    ∀ x : Place, (zoneList u x).length + (if hasReserved u x then 1 else 0) ≤ capacity u x := by
  intro x
  rw [hcfg]
  by_cases hxq : x = q
  · subst hxq
    rw [h.entered.length_eq, List.length_cons]
    exact hroom
  · have hlen : (zoneList u x).length ≤ (zoneList s x).length := by
      by_cases hxp : x = p
      · subst hxp
        rw [h.left]
        exact List.length_filter_le _ _
      · rw [h.others x hxp hxq]
    have hle : (if hasReserved u x then 1 else 0) ≤ (if hasReserved s x then 1 else 0 : Nat) := by
      by_cases hu : hasReserved u x = true
      · rw [if_pos hu, if_pos (hres x hxq hu)]
      · rw [if_neg hu]
        exact Nat.zero_le _
    have := hcap x
    omega

end

/-- The passages still agree when the gates stay, the heads and members they read stay, and the line is RUN where it was. -/
theorem PassagesAgree.of_lists {s u : State} (h : PassagesAgree s) (line : s.line.state = .run → u.line.state = .run)
    (gates : u.zu.gates = s.zu.gates)
    (intake : ∀ (l : Lane) (x : Tag), (s.zu.gates.get (.lane l)).passing = some x → s.zu.intake.head? = some x →
      u.zu.intake.head? = some x)
    (buffer : ∀ x : Tag, s.zu.gates.feed.passing = some x → x ∈ s.zu.buffer → x ∈ u.zu.buffer)
    (batch : ∀ x ∈ u.cs.batchList, x ∈ s.cs.batchList ∧ (x ∈ s.zu.chamber → x ∈ u.zu.chamber)) : PassagesAgree u := by
  obtain ⟨hrun, hone, hlane, hfeed, hbatch⟩ := h
  simp only [PassagesAgree, gates]
  exact ⟨fun g hg => line (hrun g hg), hone, fun l x hx => intake l x hx (hlane l x hx), fun x hx => buffer x hx (hfeed x hx),
    fun x hx => (batch x hx).2 (hbatch x (batch x hx).1)⟩

/-! ### A record that joins, a record that leaves -/

/-- A new record stands at a place that has room for it. -/
theorem standOnce_added {s u : State} {r : Record} {p : Place} (hc : CabinetsStandOnce s)
    (hr : u.records = s.records ++ [r]) (hnew : ∀ x ∈ s.records, x.tag ≠ r.tag)
    (hst : r.station = stationOf p) (hentered : zoneList u p = zoneList s p ++ [r.tag])
    (hothers : ∀ x, x ≠ p → zoneList u x = zoneList s x) (hcfg : ∀ x, capacity u x = capacity s x)
    (hres : ∀ x, hasReserved u x = hasReserved s x) (hfree : hasFreePlace s p = true) : CabinetsStandOnce u := by
  obtain ⟨hz, hcap, hstations⟩ := hc
  have habsent : ∀ x, r.tag ∉ zoneList s x := by
    intro x hx
    obtain ⟨y, hy, hyt⟩ := record_of_mem_zone hz hx
    exact hnew y hy hyt
  refine ⟨?_, ?_, ?_⟩
  · rw [hr, List.map_append]
    refine List.perm_iff_count.mpr fun a => ?_
    rw [List.count_append, ← hz.count_eq, count_tagsInZones, count_tagsInZones]
    have h1 := sum_changed_at (f := fun x => (zoneList s x).count a) (g := fun x => (zoneList u x).count a) places_nodup
      (mem_places p) fun x hx => by rw [hothers x hx]
    have h2 : (zoneList u p).count a = (zoneList s p).count a + [r.tag].count a := by rw [hentered, List.count_append]
    simp only [List.map_cons, List.map_nil]
    omega
  · intro x
    rw [hcfg, hres]
    by_cases hx : x = p
    · subst hx
      rw [hentered, List.length_append]
      have := of_decide_eq_true hfree
      simp only [List.length_cons, List.length_nil]
      omega
    · rw [hothers x hx]
      exact hcap x
  · intro x hx n
    rw [← mem_zoneList_station]
    rw [hr] at hx
    rcases List.mem_append.mp hx with hm | hm
    · have hne : x.tag ≠ r.tag := hnew x hm
      rw [hstations x hm n, ← mem_zoneList_station]
      by_cases hn : Place.station n = p
      · rw [hn, hentered]
        simp [hne]
      · rw [hothers _ hn]
    · obtain rfl := List.mem_singleton.mp hm
      by_cases hn : Place.station n = p
      · rw [hn, hentered, hst, ← hn]
        simp [stationOf]
      · rw [hothers _ hn, hst]
        exact ⟨fun e => absurd (stationOf_eq_some.mp e).symm hn, fun e => absurd e (habsent _)⟩

/-- A record leaves the table and the place where it stood. -/
theorem standOnce_removed {s u : State} {t : Tag} {p : Place} (hd : TagsDistinct s) (hc : CabinetsStandOnce s)
    (hr : u.records = s.records.filter (·.tag != t)) (hstood : t ∈ zoneList s p)
    (hleft : zoneList u p = (zoneList s p).filter (· != t)) (hothers : ∀ x, x ≠ p → zoneList u x = zoneList s x)
    (hcfg : ∀ x, capacity u x = capacity s x) (hres : ∀ x, hasReserved u x = hasReserved s x) : CabinetsStandOnce u := by
  obtain ⟨hz, hcap, hstations⟩ := hc
  have hzone : ∀ x, zoneList u x = (zoneList s x).filter (· != t) := by
    intro x
    by_cases hx : x = p
    · rw [hx, hleft]
    · rw [hothers x hx, eq_comm, List.filter_eq_self]
      intro a ha
      have : a ≠ t := fun e => hx (place_unique hd hz (e ▸ ha) hstood)
      simpa using this
  refine ⟨?_, ?_, ?_⟩
  · have h1 : tagsInZones u = (tagsInZones s).filter (· != t) := by
      rw [tagsInZones_eq, tagsInZones_eq, List.filter_flatMap]
      exact congrArg (places.flatMap ·) (funext hzone)
    have h2 : u.records.map (·.tag) = (s.records.map (·.tag)).filter (· != t) := by
      rw [hr, List.filter_map]
      rfl
    rw [h1, h2]
    exact hz.filter _
  · intro x
    rw [hcfg, hres, hzone]
    have := List.length_filter_le (· != t) (zoneList s x)
    have := hcap x
    omega
  · intro x hx n
    rw [hr] at hx
    obtain ⟨hm, hne⟩ := List.mem_filter.mp hx
    rw [hstations x hm n, ← mem_zoneList_station, ← mem_zoneList_station, hzone]
    simp only [List.mem_filter, hne, and_true]

end Sys2Proof.Machine
end

section
/-!
The zone unit's events keep the invariants: gates released, passages taken or abandoned, routing and admission (R29 to R37, R45, R46),
the selection attempt and the forming of the batch (R161 to R163).
-/

namespace Sys2Proof.Machine

variable {s : State}

/-! ### Frames of the movements -/

/-- Taking a record out of a list touches the zones and the stations, and no gate. -/
theorem takeOut_frame (s : State) (p : Place) (t : Tag) :
    ∃ (z : ZoneUnit) (st : Vector StationEntry 12), takeOut s p t = { s with zu := z, stations := st } ∧ z.gates = s.zu.gates := by
  cases p with
  | station n => exact ⟨s.zu, _, rfl, rfl⟩
  | intake => exact ⟨_, s.stations, rfl, rfl⟩
  | lane l => exact ⟨_, s.stations, rfl, rfl⟩
  | buffer => exact ⟨_, s.stations, rfl, rfl⟩
  | chamber => exact ⟨_, s.stations, rfl, rfl⟩
  | exit => exact ⟨_, s.stations, rfl, rfl⟩

/-- Putting a record into a list touches the zones and the stations, and no gate. -/
theorem putTail_frame (s : State) (p : Place) (t : Tag) :
    ∃ (z : ZoneUnit) (st : Vector StationEntry 12), putTail s p t = { s with zu := z, stations := st } ∧ z.gates = s.zu.gates := by
  cases p with
  | station n => exact ⟨s.zu, _, rfl, rfl⟩
  | intake => exact ⟨_, s.stations, rfl, rfl⟩
  | lane l => exact ⟨_, s.stations, rfl, rfl⟩
  | buffer => exact ⟨_, s.stations, rfl, rfl⟩
  | chamber => exact ⟨_, s.stations, rfl, rfl⟩
  | exit => exact ⟨_, s.stations, rfl, rfl⟩

/-- A movement touches the zones and the stations, and no gate. -/
theorem move_frame (s : State) (p q : Place) (t : Tag) :
    ∃ (z : ZoneUnit) (st : Vector StationEntry 12),
      putTail (takeOut s p t) q t = { s with zu := z, stations := st } ∧ z.gates = s.zu.gates := by
  obtain ⟨z, st, h, hg⟩ := takeOut_frame s p t
  obtain ⟨z', st', h', hg'⟩ := putTail_frame (takeOut s p t) q t
  refine ⟨z', st', by rw [h', h], hg'.trans ?_⟩
  rw [h]
  exact hg

/-- The lists and claims alone say what stands at a place. -/
theorem zoneList_congr {u : State} (hz : u.zu = s.zu) (hs : u.stations = s.stations) (p : Place) : zoneList u p = zoneList s p := by
  cases p <;> simp only [zoneList, hz, hs]

theorem zoneList_updRecord (s : State) (t : Tag) (f : Record → Record) (p : Place) : zoneList (updRecord s t f) p = zoneList s p :=
  zoneList_congr rfl rfl p

/-- A record taken out of one list and put at the tail of another has moved, once its station field follows. -/
theorem Moved.of_tail {u : State} {t : Tag} {p q : Place} (hu : ∀ x, Machine.zoneList u x = Machine.zoneList (putTail (takeOut s p t) q t) x)
    (hp : t ∈ Machine.zoneList s p) (hne : p ≠ q) (hq : (stationOf q).isSome → Machine.zoneList s q = [])
    (hr : ∃ g : Record → Record, u.records = s.records.map g ∧ ∀ r ∈ s.records,
      (g r).tag = r.tag ∧ (HoldsOnce r → HoldsOnce (g r)) ∧ (RecordInRange r → RecordInRange (g r))
        ∧ (g r).station = if r.tag = t then stationOf q else r.station) : Moved s u t p q where
  stood := hp
  ne := hne
  left := by rw [hu, zoneList_putTail_other _ _ _ hne, zoneList_takeOut_same s p t hp]
  entered := by
    rw [hu, zoneList_putTail_same _ _ _ fun h => by rw [zoneList_takeOut_other s p t hne.symm]; exact hq h,
      zoneList_takeOut_other s p t hne.symm]
    exact List.perm_append_comm
  others x hxp hxq := by rw [hu, zoneList_putTail_other _ _ _ hxq, zoneList_takeOut_other s p t hxp]
  records := hr

/-- The records after the update of one record, as a movement into q asks for them: the record's station field has to be q's. -/
theorem records_of_update {t : Tag} {q : Place} (f : Record → Record) (hf : ∀ r, (f r).tag = r.tag ∧ (HoldsOnce r → HoldsOnce (f r))
      ∧ (RecordInRange r → RecordInRange (f r))) (hst : ∀ r ∈ s.records, r.tag = t → (f r).station = stationOf q) :
    ∃ g : Record → Record, (updRecord s t f).records = s.records.map g ∧ ∀ r ∈ s.records,
      (g r).tag = r.tag ∧ (HoldsOnce r → HoldsOnce (g r)) ∧ (RecordInRange r → RecordInRange (g r))
        ∧ (g r).station = if r.tag = t then stationOf q else r.station := by
  refine ⟨fun r => if r.tag == t then f r else r, rfl, fun r hr => ?_⟩
  by_cases e : r.tag = t
  · simpa [e] using ⟨e ▸ (hf r).1, (hf r).2.1, (hf r).2.2, hst r hr e⟩
  · simp [e]

/-! ### Gates -/

/-- The reserved places after a gate is set. -/
theorem hasReserved_setGate (s : State) (g : Gate) (e : GateEntry) (p : Place) :
    hasReserved (setGate s g e) p = if gateInto p = some g then e.passing.isSome else hasReserved s p := by
  unfold hasReserved
  cases hp : gateInto p with
  | none => simp
  | some h =>
    by_cases hg : h = g
    · subst hg
      simp [setGate]
    · simp [setGate, GateTab.get_set_other _ hg, hg]

theorem gatesAgree_setGate {g : Gate} {e : GateEntry} (he : (e.release = true ↔ e.state = .released) ∧
    (e.passing.isSome = true ↔ e.state = .released)) (h : GatesAgree s) : GatesAgree (setGate s g e) := by
  intro x
  by_cases hx : x = g
  · subst hx
    simpa [setGate] using he
  · simpa [setGate, GateTab.get_set_other _ hx] using h x

/-- A gate that has a record in passage is RELEASED. -/
theorem released_of_passing {g : Gate} {t : Tag} (hg : GatesAgree s) (h : (s.zu.gates.get g).passing = some t) :
    (s.zu.gates.get g).state = .released := (hg g).2.mp (by rw [h]; rfl)

/-- Setting a gate IDLE or BLOCKED gives up what it held. -/
theorem standing_setGate_closed {g : Gate} {e : GateEntry} (hst : e.state ≠ .released) (hr : e.release = false) (hp : e.passing = none)
    (h : Standing s) : Standing (setGate s g e) := by
  obtain ⟨hd, hg, ⟨hz, hcap, hstations⟩, hrun, hone, hlane, hfeed, hbatch⟩ := h
  have he : (e.release = true ↔ e.state = .released) ∧ (e.passing.isSome = true ↔ e.state = .released) := by simp [hst, hr, hp]
  have hget : ∀ x, ((setGate s g e).zu.gates.get x) = if x = g then e else s.zu.gates.get x := by
    intro x
    by_cases hx : x = g
    · subst hx; simp [setGate]
    · simp [setGate, GateTab.get_set_other _ hx, hx]
  refine ⟨hd, gatesAgree_setGate he hg, ⟨hz, fun p => ?_, hstations⟩, ?_, ?_, ?_, ?_, hbatch⟩
  · rw [hasReserved_setGate]
    have := hcap p
    show (zoneList s p).length + _ ≤ capacity s p
    split
    · rw [hp]
      simp only [Option.isSome_none, Bool.false_eq_true, if_false]
      omega
    · exact this
  · intro x hx
    rw [hget] at hx
    split at hx
    · exact absurd hx hst
    · exact hrun x hx
  · intro l m hl hm
    rw [hget] at hl hm
    split at hl
    · exact absurd hl hst
    · split at hm
      · exact absurd hm hst
      · exact hone l m hl hm
  · intro l t hl
    rw [hget] at hl
    split at hl
    · rw [hp] at hl; cases hl
    · exact hlane l t hl
  · intro t ht
    have ht' : ((setGate s g e).zu.gates.get .feed).passing = some t := ht
    rw [hget] at ht'
    split at ht'
    · rw [hp] at ht'; cases ht'
    · exact hfeed t ht'

theorem keeps_setGate_closed (g : Gate) (e : GateEntry) (hst : e.state ≠ .released) (hr : e.release = false) (hp : e.passing = none) :
    Keeps s (setGate s g e) :=
  Apart.keeps { Apart.refl s with } (gatesAgree_setGate (by simp [hst, hr, hp])) id (standing_setGate_closed hst hr hp)

theorem keeps_gateToIdle (s : State) (g : Gate) : Keeps s (gateToIdle s g) :=
  .after (quiet_setPassage _ g _).keeps (keeps_setGate_closed g .initial (by decide) rfl rfl)

/-- A release of a lane gate for the INTAKE head, or of FEED_GATE for a record of BUFFER, in RUN, while the gate is not RELEASED and no
other lane gate is, into a zone with a free place (R31, R45). -/
theorem standing_releaseGate {g : Gate} {t : Tag} {p : Place} (hrun : s.line.state = .run) (hp : gateInto p = some g)
    (hinto : ∀ x, gateInto x = some g → x = p)
    (hidle : (s.zu.gates.get g).state ≠ .released)
    (hlanes : ∀ l m, g = .lane l → (s.zu.gates.get (.lane m)).state ≠ .released) (hfree : hasFreePlace s p = true)
    (hhead : ∀ l, g = .lane l → s.zu.intake.head? = some t) (hbuffer : g = .feed → t ∈ s.zu.buffer) (h : Standing s) :
    Standing (releaseGate s g t) := by
  obtain ⟨hd, hg, ⟨hz, hcap, hstations⟩, hrun', hone, hlane, hfeed, hbatch⟩ := h
  have hget : ∀ x, ((releaseGate s g t).zu.gates.get x) = if x = g then ⟨.released, true, some t⟩ else s.zu.gates.get x := by
    intro x
    show ((s.zu.gates.set g _).get x) = _
    by_cases hx : x = g
    · subst hx; simp
    · simp [GateTab.get_set_other _ hx, hx]
  refine ⟨hd, gatesAgree_setGate (by simp) hg, ⟨hz, fun x => ?_, hstations⟩, fun x _ => hrun, ?_, ?_, ?_, hbatch⟩
  · show (zoneList s x).length + (if hasReserved (setGate s g ⟨.released, true, some t⟩) x then 1 else 0) ≤ capacity s x
    rw [hasReserved_setGate]
    by_cases hx : gateInto x = some g
    · obtain rfl := hinto x hx
      have hlt := of_decide_eq_true hfree
      rw [if_pos hx]
      simp only [Option.isSome_some, if_true]
      omega
    · rw [if_neg hx]
      exact hcap x
  · intro l m hl hm
    rw [hget] at hl hm
    split at hl
    · rename_i hlg
      split at hm
      · rename_i hmg
        exact Gate.lane.inj (hlg.trans hmg.symm)
      · exact absurd hm (hlanes l m hlg.symm)
    · split at hm
      · rename_i hmg
        exact absurd hl (hlanes m l hmg.symm)
      · exact hone l m hl hm
  · intro l x hl
    rw [hget] at hl
    split at hl
    · rename_i hlg
      rw [← Option.some.inj hl]
      exact hhead l hlg.symm
    · exact hlane l x hl
  · intro x hx
    have hx' : ((releaseGate s g t).zu.gates.get .feed).passing = some x := hx
    rw [hget] at hx'
    split at hx'
    · rename_i hgf
      rw [← Option.some.inj hx']
      exact hbuffer hgf.symm
    · exact hfeed x hx'

theorem keeps_releaseGate {g : Gate} {t : Tag} (h : Standing s → Standing (releaseGate s g t)) : Keeps s (releaseGate s g t) :=
  Apart.keeps { Apart.refl s with } (gatesAgree_setGate (by simp)) id h

/-! ### Routing and admission -/

/-- What a routable record is: the INTAKE head, in RUN, with no lane gate RELEASED (R29). -/
theorem routable_some {r : Record} (h : routable s = some r) :
    s.line.state = .run ∧ (∀ l, (s.zu.gates.get (.lane l)).state ≠ .released) ∧ s.zu.intake.head? = some r.tag := by
  unfold routable at h
  split at h
  · rename_i hc
    obtain ⟨hrun, hnone⟩ := hc
    refine ⟨hrun, fun l => ?_, ?_⟩
    · have := List.all_eq_true.mp hnone l (by cases l <;> decide)
      simpa using this
    · split at h
      · rename_i t ts hts
        rw [Option.filter_eq_some_iff] at h
        rw [(lookup_some h.1).2.1, hts]
        rfl
      · cases h
  · cases h

theorem keeps_routingAttempt (s : State) : Keeps s (routingAttempt s) := by
  rcases routingAttempt_cases s with h | ⟨r, l, hr, hl, h⟩
  · rw [h]
    exact .refl s
  · rw [h]
    obtain ⟨hrun, hnone, hhead⟩ := routable_some hr
    have hc := chosenLane_candidate s hl
    simp only [laneCandidate, Bool.and_eq_true] at hc
    refine keeps_releaseGate (standing_releaseGate (p := .lane l) hrun rfl ?_ (hnone l) (fun _ m _ => hnone m) hc.1.2
      (fun _ _ => hhead) (fun e => by cases e))
    intro x hx
    cases x <;> simp_all [gateInto]

theorem keeps_admitRecord (s : State) (t : Tag) : Keeps s (admitRecord s t) := by
  unfold admitRecord
  split
  · rename_i h
    obtain ⟨hrun, hidle, hfree, hmem, -⟩ := h
    refine keeps_releaseGate (standing_releaseGate (p := .chamber) hrun rfl ?_ (by
      show s.zu.gates.feed.state ≠ _
      rw [hidle]; decide) (fun l m e => by cases e) hfree (fun l e => by cases e) fun _ => by simpa using hmem)
    intro x hx
    cases x <;> simp_all [gateInto]
  · exact .refl s

theorem steady_closeLoading (s : State) (c : PhaseCause) : Steady s (closeLoading s c) := by
  have hq : Quiet s { s with tu.load := chStopped } := { Quiet.refl s with }
  exact hq.steady.trans (steady_enterSealing _ c)

theorem keeps_selectionAttempt (s : State) : Keeps s (selectionAttempt s) := by
  unfold selectionAttempt
  split
  · split
    · exact (steady_closeLoading s _).keeps
    · split
      · exact keeps_admitRecord s _
      · split
        · exact (steady_closeLoading s _).keeps
        · exact .refl s
  · exact .refl s

theorem keeps_loadExpired (s : State) : Keeps s (loadExpired s) :=
  .after (keeps_selectionAttempt _) (Quiet.keeps { Quiet.refl s with })

/-! ### Passages -/

/-- No lane gate is RELEASED once the one that was is IDLE. -/
theorem lanes_closed_after {l : Lane} (hp : PassagesAgree s) (hl : (s.zu.gates.get (.lane l)).state = .released) (m : Lane) :
    ((gateToIdle s (.lane l)).zu.gates.get (.lane m)).state ≠ .released := by
  show ((s.zu.gates.set (.lane l) .initial).get (.lane m)).state ≠ .released
  by_cases hm : m = l
  · subst hm
    simp [GateEntry.initial]
  · rw [GateTab.get_set_other _ fun e => hm (Gate.lane.inj e)]
    exact fun hr => hm (hp.2.1 m l hr hl)

/-- A record that goes from INTAKE, BUFFER or CHAMBER to a list that is no station position keeps its station field, which is absent. -/
theorem station_none_of_mem {p q : Place} {r : Record} (hd : TagsDistinct s) (hc : CabinetsStandOnce s) (hr : r ∈ s.records)
    (hp : r.tag ∈ zoneList s p) (hpn : stationOf p = none) (hqn : stationOf q = none) : r.station = stationOf q := by
  rw [station_eq_of_mem hd hc hr hp, hpn, hqn]

theorem keeps_lanePassage {l : Lane} {t : Tag} (hst : (s.zu.gates.get (.lane l)).state = .released)
    (hpass : (s.zu.gates.get (.lane l)).passing = some t) (stamp : Clock) : Keeps s (lanePassage s l t stamp) := by
  refine .after (keeps_routingAttempt _) ?_
  let s1 := gateToIdle s (.lane l)
  let f : Record → Record := fun r => { r with stage := .routed, routeStamp := some stamp }
  let u := updRecord (putTail (takeOut s1 .intake t) (.lane l) t) t f
  have hf : ∀ r, (f r).tag = r.tag ∧ (HoldsOnce r → HoldsOnce (f r)) ∧ (RecordInRange r → RecordInRange (f r)) :=
    fun r => ⟨rfl, id, id⟩
  have hs1 := keeps_gateToIdle s (.lane l)
  show Keeps s u
  refine Apart.keeps { Apart.refl s with } hs1.gates ?_ ?_
  · exact fun h => (hs1.table h).of_map (g := fun r => if r.tag == t then f r else r) rfl
      (fun r _ => by by_cases e : r.tag = t <;> simp [e, f, HoldsOnce, RecordInRange]) id
  · intro h
    obtain ⟨hd, hg, hc, hp⟩ := hs1.standing h
    have hhead : s.zu.intake.head? = some t := h.2.2.2.2.2.1 l t hpass
    have hmem : t ∈ zoneList s1 .intake := List.mem_of_mem_head? hhead
    have hmoved : Moved s1 u t .intake (.lane l) := .of_tail (fun x => zoneList_updRecord _ t f x) hmem (by simp)
      (fun h => by cases h) (records_of_update (s := s1) f hf fun r hr e =>
        (show (f r).station = r.station from rfl).trans (station_none_of_mem hd hc hr (e ▸ hmem) rfl rfl))
    refine ⟨hmoved.tagsDistinct hd, hg, ⟨hmoved.perm hd hc.1, ?_, hmoved.stations hd hc⟩, ?_⟩
    · refine hmoved.capacities hc.2.1 (fun x => by cases x <;> rfl) (fun x _ hx => hx) ?_
      have hold := h.2.2.1.2.1 (.lane l)
      have hres : hasReserved s (.lane l) = true := by simp [hasReserved, gateInto, hpass]
      have hnot : hasReserved u (.lane l) = false := by
        show ((s.zu.gates.set (.lane l) .initial).get (.lane l)).passing.isSome = false
        simp [GateEntry.initial]
      rw [hres, if_pos rfl] at hold
      rw [hnot, if_neg Bool.false_ne_true]
      exact hold
    · have hclosed := lanes_closed_after h.2.2.2 hst
      refine hp.of_lists id rfl (fun m x hm _ => ?_) (fun x _ hb => hb) fun x hx => ⟨hx, id⟩
      exact absurd (released_of_passing hg hm) (hclosed m)

/-- The arrival of the record in passage through FEED_GATE: it stands in CHAMBER, not in BUFFER (R46). -/
theorem keeps_feedArrival {t : Tag} (hpass : s.zu.gates.feed.passing = some t) :
    Keeps s (putTail (takeOut (gateToIdle s .feed) .buffer t) .chamber t) := by
  let s1 := gateToIdle s .feed
  have hs1 := keeps_gateToIdle s .feed
  refine Apart.keeps { Apart.refl s with } hs1.gates (fun h => hs1.table h) fun h => ?_
  obtain ⟨hd, hg, hc, hp⟩ := hs1.standing h
  have hmem : t ∈ zoneList s1 .buffer := h.2.2.2.2.2.2.1 t hpass
  have hmoved : Moved s1 (putTail (takeOut s1 .buffer t) .chamber t) t .buffer .chamber :=
    .of_tail (fun _ => rfl) hmem (by simp) (fun h => by cases h) ⟨id, (List.map_id _).symm, fun r hr => ⟨rfl, id, id, by
      by_cases e : r.tag = t
      · rw [if_pos e]
        exact station_none_of_mem hd hc hr (e ▸ hmem) rfl rfl
      · rw [if_neg e]
        rfl⟩⟩
  refine ⟨hmoved.tagsDistinct hd, hg, ⟨hmoved.perm hd hc.1, ?_, hmoved.stations hd hc⟩, ?_⟩
  · refine hmoved.capacities hc.2.1 (fun x => by cases x <;> rfl) (fun x _ hx => hx) ?_
    have hold := h.2.2.1.2.1 .chamber
    have hres : hasReserved s .chamber = true := by simp [hasReserved, gateInto, GateTab.get, hpass]
    rw [hres, if_pos rfl] at hold
    exact hold
  · refine hp.of_lists id rfl (fun m x _ hi => hi) (fun x hx _ => ?_) fun x hx => ⟨hx, fun hm => List.mem_append_left _ hm⟩
    cases hx

/-- The batch number after a given one is above 0 and within 16 bits. -/
theorem nextBatch_range {k : Nat} (h : k ≤ 65535) : 1 ≤ nextBatch k ∧ nextBatch k ≤ 65535 := by
  unfold nextBatch
  split <;> omega

/-- A record of the batch of a number (R162, R175). -/
def batchedRecord (k : Nat) (r : Record) : Record := { r with stage := .batched, batch := some k }

/-- The table after one record has joined a batch. -/
theorem batchedRecord_sound {k : Nat} (hk : 1 ≤ k ∧ k ≤ 65535) (r : Record) :
    SameCabinet r (batchedRecord k r) := by
  refine ⟨rfl, rfl, id, ?_⟩
  rintro ⟨w1, w2, tr, rc, re, sk, ch, dw, -, sh⟩
  exact ⟨w1, w2, tr, rc, re, sk, ch, dw, fun x hx => Option.some.inj hx ▸ hk, sh⟩

/-- Batched under whatever number, the records stand as they stood. -/
theorem standing_updRecord (t : Tag) (f : Record → Record)
    (hf : ∀ r, (f r).tag = r.tag ∧ (f r).station = r.station ∧ (HoldsOnce r → HoldsOnce (f r))) (h : Standing s) :
    Standing (updRecord s t f) := by
  refine Standing.of_records (s := s) rfl (fun _ => rfl) rfl (g := fun r => if r.tag == t then f r else r) rfl (fun r _ => ?_) rfl rfl h
  by_cases e : r.tag = t
  · simpa [e] using ⟨e ▸ (hf r).1, (hf r).2⟩
  · simp [e]

/-- A record of CHAMBER joins the batch list under the batch counter (R162). -/
theorem keeps_joinBatch {t : Tag} {k : Nat} {batch : List Tag} (hbatch : batch = s.cs.batchList ++ [t]) (hmem : t ∈ s.zu.chamber)
    (hk : CountersInRange s → 1 ≤ k ∧ k ≤ 65535) (load : Channel) (ff : Nat) :
    Keeps s { updRecord s t (batchedRecord k) with
      tu.load := load, cs.batchCounter := k, cs.batchList := batch, cs.ffCount := ff } := by
  subst hbatch
  refine Apart.keeps { Apart.refl s with } id ?_ ?_
  · intro h
    have hk' := hk h.2.2
    refine h.of_map (g := fun r => if r.tag == t then batchedRecord k r else r) rfl (fun r _ => ?_)
      fun hc => ⟨hc.1, hk'.2, fun _ => hk'.1⟩
    have hb := batchedRecord_sound hk' r
    by_cases e : r.tag = t
    · simpa [e] using ⟨e ▸ hb.tag, hb.holds, hb.range⟩
    · simp [e]
  · intro h
    obtain ⟨hd, hg, hc, hrun, hone, hlane, hfeed, hbatch⟩ :=
      standing_updRecord t (batchedRecord k) (fun _ => ⟨rfl, rfl, id⟩) h
    refine ⟨hd, hg, hc, hrun, hone, hlane, hfeed, fun x hx => ?_⟩
    rcases List.mem_append.mp hx with hx | hx
    · exact hbatch x hx
    · rw [List.mem_singleton.mp hx]
      exact hmem

/-- The skip counts of the candidates passed over rise, up to 3 (R162). -/
theorem quiet_skips (s : State) (l : List Tag) :
    Quiet s (l.foldl (fun s x => updRecord s x fun r => { r with skipCount := min (r.skipCount + 1) 3 }) s) :=
  Quiet.foldl (f := fun s x => updRecord s x fun r => { r with skipCount := min (r.skipCount + 1) 3 })
    (fun s x => quiet_updRecord s x _ fun _ =>
      .of_fields rfl rfl id rfl id id rfl (fun _ => Nat.min_le_right _ _) rfl id rfl id) l s

end Sys2Proof.Machine
end

section
/-!
The chamber's batch and the movements that requests ask for: admissions, adoption and retirement of a batch (R162, R170, R175), claims
taken and returned (R39, R40), releases, disposals, new and retired records (R16, R22, R41, R185).
-/

namespace Sys2Proof.Machine

variable {s : State}

/-! ### Admission into the batch -/

/-- A fold of updates touches the records alone. -/
theorem foldl_updRecord (f : Record → Record) (l : List Tag) (s : State) :
    l.foldl (fun s x => updRecord s x f) s
      = { s with records := l.foldl (fun rs x => rs.map fun r => if r.tag == x then f r else r) s.records } := by
  induction l generalizing s with
  | nil => rfl
  | cons x l ih => rw [List.foldl_cons, ih]; rfl

/-- The skip of a barred candidate that an admission passes over, up to 3 (R162). -/
def skippedRecord (r : Record) : Record := { r with skipCount := min (r.skipCount + 1) 3 }

/-- The barred candidates among the records ahead of an admitted one (R162). -/
def passedOver (s : State) (ahead : List Tag) : List Tag := ahead.filter fun x => isCandidate s x && isBarred s x

/-- The number of the batch that an admission joins (R162). -/
def admissionBatch (s : State) : Nat := if s.cs.batchList.isEmpty then nextBatch s.cs.batchCounter else s.cs.batchCounter

/-- The table after an admission. -/
def admissionTable (s : State) (ahead : List Tag) (t : Tag) : State :=
  updRecord ((passedOver s ahead).foldl (fun s x => updRecord s x skippedRecord) s) t (batchedRecord (admissionBatch s))

/-- The state after an admission, before CS closes loading or selects again (R162). -/
def admitted (s : State) (ahead : List Tag) (t : Tag) : State :=
  { admissionTable s ahead t with
    tu.load := if s.cs.batchList.isEmpty then chStart (s.clock + sec s.cs.working.loadWait) else s.tu.load
    cs.batchCounter := admissionBatch s
    cs.batchList := s.cs.batchList ++ [t]
    cs.ffCount := s.cs.ffCount + ffCountOf (admissionTable s ahead t) [t] }

/-- The table of an admission differs from the one before it in its records alone. -/
theorem admissionTable_eq (s : State) (ahead : List Tag) (t : Tag) :
    admissionTable s ahead t = { s with records := (admissionTable s ahead t).records } := by
  rw [admissionTable, foldl_updRecord]
  rfl

theorem takeAdmission_eq (s : State) (ahead : List Tag) (t : Tag) :
    takeAdmission s ahead t =
      if s.cs.working.batchSize ≤ (s.cs.batchList ++ [t]).length then closeLoading (admitted s ahead t) .batchFull
      else selectionAttempt (admitted s ahead t) := by
  have hskip : ∀ s' : State, (ahead.filter fun x => isCandidate s x && isBarred s x).foldl
      (fun s x => updRecord s x fun r => { r with skipCount := min (r.skipCount + 1) 3 }) s' = _ :=
    fun s' => foldl_updRecord skippedRecord _ s'
  unfold takeAdmission
  by_cases hb : s.cs.batchList.isEmpty = true
  · simp only [hb, if_true, hskip, admitted, admissionTable, admissionBatch, passedOver, foldl_updRecord]
    rfl
  · simp only [hb, Bool.false_eq_true, if_false, hskip, admitted, admissionTable, admissionBatch, passedOver, foldl_updRecord]
    rfl

theorem keeps_admitted (ahead : List Tag) {t : Tag} (ht : t ∈ s.zu.chamber) : Keeps s (admitted s ahead t) := by
  have hq : Quiet s ((passedOver s ahead).foldl (fun s x => updRecord s x skippedRecord) s) := quiet_skips s _
  have hk : CountersInRange s → 1 ≤ admissionBatch s ∧ admissionBatch s ≤ 65535 := by
    rintro ⟨-, hle, hpos⟩
    unfold admissionBatch
    split
    · exact nextBatch_range hle
    · rename_i hne
      exact ⟨hpos fun e => hne (by rw [e]; rfl), hle⟩
  refine .after (keeps_joinBatch ?_ (hq.zu ▸ ht) (fun hc => hk ?_) _ _) hq.keeps
  · rw [hq.batchList]
  · simpa only [CountersInRange, hq.cfg, hq.batchCounter, hq.batchList] using hc

theorem keeps_takeAdmission (ahead : List Tag) {t : Tag} (ht : t ∈ s.zu.chamber) : Keeps s (takeAdmission s ahead t) := by
  rw [takeAdmission_eq]
  split
  · exact .after (steady_closeLoading _ _).keeps (keeps_admitted ahead ht)
  · exact .after (keeps_selectionAttempt _) (keeps_admitted ahead ht)

theorem keeps_feedPassage {t : Tag} (hpass : s.zu.gates.feed.passing = some t) : Keeps s (feedPassage s t) :=
  .after (keeps_takeAdmission _ (List.mem_append_right _ (List.mem_singleton.mpr rfl))) (keeps_feedArrival hpass)

/-- ZU takes a passage event (R33, R35, R46). -/
theorem keeps_passageAt (s : State) (g : Gate) (stamp : Clock) : Keeps s (passageAt s g stamp) := by
  unfold passageAt
  dsimp only
  split
  · exact keeps_lanePassage ‹_› ‹_› stamp
  · exact keeps_feedPassage ‹_›
  · exact .refl s
  · exact keeps_setGate_closed _ ⟨.blocked, false, none⟩ (by simp) rfl rfl

/-- Withdrawing an inlet leaves the records, or takes the one of the tag back to CLAIMED. -/
theorem withdrawInlet_records (s : State) (t : Tag) :
    (withdrawInlet s t).records = s.records ∨ (withdrawInlet s t).records = (setStage s t .claimed).records := by
  unfold withdrawInlet
  split
  · exact .inl rfl
  · split
    · right
      dsimp only
      split
      · split
        · obtain ⟨u, p, h⟩ := grantAttempt_frame
            (updVessel (withdrawSample (setStage (leaveQueues s t) t .claimed) (.vessel _)) _ fun x => { x with state := .idle, bound := none }) _
          rw [abandonGrant, h]
          rfl
        · rfl
      · rfl
    · exact .inl rfl

/-- A hold that is new stays new when the inlet is withdrawn. -/
theorem isNewHold_withdrawInlet {t : Tag} {h : HoldReason} (hn : isNewHold s t h = true) : isNewHold (withdrawInlet s t) t h = true := by
  obtain ⟨r, hr, hc⟩ := isNewHold_iff.mp hn
  rcases withdrawInlet_records s t with hw | hw
  · refine isNewHold_iff.mpr ⟨r, ?_, hc⟩
    rwa [lookup, hw]
  · refine isNewHold_iff.mpr ⟨{ r with stage := .claimed }, ?_, hc⟩
    have hl := lookup_updRecord_same s t (fun r => { r with stage := .claimed }) fun _ => rfl
    rw [lookup, hw]
    rwa [hr] at hl

theorem keeps_jamAdmission (s : State) (t : Tag) : Keeps s (jamAdmission s t) := by
  unfold jamAdmission
  split
  · rename_i hn
    have hjam : Quiet s (putHold (withdrawInlet s t) t .jam 0) :=
      .after (quiet_putHold _ t _ _ (isNewHold_withdrawInlet hn)) (quiet_withdrawInlet s t)
    exact .after (quiet_sendHoldRaised _ _ _ _ _).keeps (.after (keeps_selectionAttempt _) hjam.keeps)
  · exact keeps_selectionAttempt s

theorem quiet_markOverdue (s : State) : Quiet s (markOverdue s) := { Quiet.refl s with }

/-- The passage channel of a RELEASED gate has expired (R34, R47). -/
theorem keeps_passageTimedOut (s : State) (g : Gate) : Keeps s (passageTimedOut s g) := by
  unfold passageTimedOut
  dsimp only
  split
  · split
    · exact .after (keeps_routingAttempt _) (.after (quiet_raiseHold _ _ _ _ _).keeps (keeps_gateToIdle s _))
    · exact .after (keeps_jamAdmission _ _) (.after (quiet_markOverdue _).keeps (keeps_gateToIdle s .feed))
  · exact .refl s

/-! ### Movements that requests ask for -/

/-- A movement past IDLE gates, into a place with room, keeps every invariant. -/
theorem keeps_of_moved {u : State} {t : Tag} {p q : Place} (apart : Apart s u) (table : TableSound s → TableSound u)
    (moved : Standing s → Moved s u t p q) (gates : u.zu.gates = s.zu.gates) (line : u.line.state = s.line.state)
    (room : hasFreePlace s q = true) (batchList : u.cs.batchList = s.cs.batchList)
    (intake : ∀ (l : Lane) (x : Tag), (s.zu.gates.get (.lane l)).passing = some x → s.zu.intake.head? = some x → u.zu.intake.head? = some x)
    (buffer : ∀ x : Tag, s.zu.gates.feed.passing = some x → x ∈ s.zu.buffer → x ∈ u.zu.buffer)
    (chamber : ∀ x ∈ s.zu.chamber, x ∈ u.zu.chamber) : Keeps s u := by
  have hres : ∀ x, hasReserved u x = hasReserved s x := fun x => by simp only [hasReserved, gates]
  refine apart.keeps (fun hg => by simpa only [GatesAgree, gates] using hg) table fun h => ?_
  have hm := moved h
  obtain ⟨hd, hg, hc, hp⟩ := h
  refine ⟨hm.tagsDistinct hd, by simpa only [GatesAgree, gates] using hg, ⟨hm.perm hd hc.1, ?_, hm.stations hd hc⟩, ?_⟩
  · refine hm.capacities hc.2.1 (capacity_of_same apart.cfg) (fun x _ hx => by rwa [hres] at hx) ?_
    have := of_decide_eq_true room
    rw [hres]
    omega
  · exact hp.of_lists (fun h => line.trans h) gates intake buffer fun x hx => ⟨batchList ▸ hx, chamber x⟩

/-- The station field of a record follows it to a position. -/
def stationedRecord (n : Option Node) (r : Record) : Record := { r with station := n }

theorem stationedRecord_sound (n : Option Node) (r : Record) : (stationedRecord n r).tag = r.tag
    ∧ (HoldsOnce r → HoldsOnce (stationedRecord n r)) ∧ (RecordInRange r → RecordInRange (stationedRecord n r)) := ⟨rfl, id, id⟩

/-- The table after the update of one record that keeps its tag, hold set and ranges. -/
theorem tableSound_updRecord {u : State} {t : Tag} {f : Record → Record} (hu : u.records = (updRecord s t f).records)
    (hf : ∀ r, (f r).tag = r.tag ∧ (HoldsOnce r → HoldsOnce (f r)) ∧ (RecordInRange r → RecordInRange (f r)))
    (hc : CountersInRange s → CountersInRange u) (h : TableSound s) : TableSound u :=
  h.of_map (g := fun r => if r.tag == t then f r else r) hu (fun r _ => by
    by_cases e : r.tag = t
    · simpa [e] using ⟨e ▸ (hf r).1, (hf r).2⟩
    · simp [e]) hc

/-- A claimable record stands in the lane (R64). -/
theorem claimable_mem {e : StationEntry} {l : Lane} {r : Record} (h : claimable s e l = some r) :
    r.tag ∈ s.zu.lanes.get l ∧ lookup s r.tag = some r := by
  obtain ⟨t, ht, hf⟩ := List.exists_of_findSome?_eq_some h
  obtain ⟨hl, -⟩ := Option.filter_eq_some_iff.mp hf
  obtain ⟨-, htag, -⟩ := lookup_some hl
  rw [htag]
  exact ⟨ht, hl⟩

theorem keeps_takeClaim {n : Node} {l : Lane} {r : Record} (hfree : s.stations[n].claim = none)
    (hmem : r.tag ∈ s.zu.lanes.get l) : Keeps s (takeClaim s n l r) := by
  have hempty : zoneList s (.station n) = [] := by
    show s.stations[n].claim.toList = []
    rw [hfree]
    rfl
  have hmove : Keeps s (updRecord (putTail (takeOut s (.lane l) r.tag) (.station n) r.tag) r.tag (stationedRecord (some n))) := by
    refine keeps_of_moved (t := r.tag) (p := .lane l) (q := .station n) { Apart.refl s with }
      (tableSound_updRecord rfl (stationedRecord_sound _) id)
      (fun h => .of_tail (fun x => zoneList_updRecord _ _ _ x) hmem (by simp) (fun _ => hempty)
        (records_of_update (s := s) _ (stationedRecord_sound _) fun _ _ _ => rfl))
      rfl rfl ?_ rfl (fun _ _ _ h => h) (fun _ _ h => h) (fun _ h => h)
    simp [hasFreePlace, hempty, hasReserved, gateInto, capacity]
  unfold takeClaim
  refine .after (keeps_routingAttempt _) (.trans hmove ?_)
  split
  · exact (quiet_enterDone1Empty _ _).keeps
  · exact (quiet_setStage _ _ _).keeps

/-- A claimed record goes back to the head of a lane (R40). -/
theorem keeps_returnClaim {n : Node} {l : Lane} {t : Tag} (hclaim : s.stations[n].claim = some t)
    (room : hasFreePlace s (.lane l) = true) : Keeps s (returnClaim s n l t) := by
  have hmem : t ∈ zoneList s (.station n) := mem_zoneList_station.mpr hclaim
  have hz : ∀ x, zoneList (putHead (leavePosition s n t) l t) x
      = if x = .lane l then t :: zoneList (takeOut s (.station n) t) (.lane l) else zoneList (takeOut s (.station n) t) x := by
    intro x
    cases x with
    | lane m =>
      by_cases hm : m = l
      · subst hm
        simp [putHead, leavePosition, zoneList, takeOut]
      · simp [putHead, leavePosition, zoneList, takeOut, LaneTab.get_set_other _ hm, hm]
    | _ => rfl
  have hmove : Keeps s (putHead (leavePosition s n t) l t) := by
    refine keeps_of_moved (t := t) (p := .station n) (q := .lane l) { Apart.refl s with }
      (tableSound_updRecord rfl (stationedRecord_sound none) id) (fun h => ?_) rfl rfl room rfl (fun _ _ _ h => h) (fun _ _ h => h)
      (fun _ h => h)
    exact
      { stood := hmem
        ne := by simp
        left := by rw [hz, if_neg (by simp), zoneList_takeOut_same s _ t hmem]
        entered := by rw [hz, if_pos rfl, zoneList_takeOut_other s _ t (by simp)]
        others := fun x hxp hxq => by rw [hz, if_neg hxq, zoneList_takeOut_other s _ t hxp]
        records := records_of_update (s := s) _ (stationedRecord_sound none) fun _ _ _ => rfl }
  exact hmove.trans (quiet_setStage _ t _).keeps

/-- A released record goes from its position to the tail of BUFFER (R41). -/
theorem keeps_toBuffer {n : Node} {t : Tag} (hclaim : s.stations[n].claim = some t) (room : hasFreePlace s .buffer = true) :
    Keeps s (putTail (leavePosition s n t) .buffer t) := by
  refine keeps_of_moved (t := t) (p := .station n) (q := .buffer) { Apart.refl s with }
    (tableSound_updRecord rfl (stationedRecord_sound none) id)
    (fun h => .of_tail (fun x => ?_) (mem_zoneList_station.mpr hclaim) (by simp) (fun h => by cases h)
      (records_of_update (s := s) _ (stationedRecord_sound none) fun _ _ _ => rfl))
    rfl rfl room rfl (fun _ _ _ h => h) (fun _ _ h => List.mem_append_left _ h) (fun _ h => h)
  exact zoneList_congr rfl rfl x

/-! ### Disposal -/

/-- What a disposal does before it asks for an attempt: out of the place, into EXIT, REJECTED (R185). -/
def disposedFrom (s : State) (p : Option Place) (t : Tag) : State :=
  setStage (putTail (leaveQueues (match p with
    | some (.station n) => leaveStation s n t
    | some p => takeOut s p t
    | none => s) t) .exit t) t .rejected

/-- A record that is not in passage leaves its list without touching what the gates hold. -/
theorem not_passing {t : Tag} (h : inPassage s t = false) (g : Gate) : (s.zu.gates.get g).passing ≠ some t := by
  have hg : g ∈ allGates := by
    cases g with
    | lane l => cases l <;> decide
    | feed => decide
  simpa using List.any_eq_false.mp h g hg

/-- Filtering out another tag keeps the head. -/
theorem head?_filter_ne {l : List Tag} {x t : Tag} (hx : l.head? = some x) (hne : x ≠ t) : (l.filter (· != t)).head? = some x := by
  cases l with
  | nil => cases hx
  | cons y l =>
    obtain rfl : y = x := Option.some.inj hx
    simp [hne]

/-- The stations' part of a disposal leaves the zones and tables as taking the record out of its position does. -/
theorem leaveStation_frame (s : State) (n : Node) (t : Tag) :
    ∃ (pr : Vector Progress 12) (tu : TimerUnit), leaveStation s n t = { leavePosition s n t with progress := pr, tu := tu }
      ∧ tu.door = s.tu.door ∧ tu.pwm = s.tu.pwm := by
  unfold leaveStation
  dsimp only
  split
  · exact ⟨_, _, rfl, rfl, rfl⟩
  · exact ⟨_, _, rfl, rfl, rfl⟩
  · exact ⟨_, _, rfl, rfl, rfl⟩
  · exact ⟨s.progress, s.tu, rfl, rfl, rfl⟩

end Sys2Proof.Machine
end

section
/-!
Records that are disposed of, join the table or leave it (R16, R22, R185), batches that are adopted or retired (R170, R175), and the
changes of the line state (R37, R204, R207).
-/

namespace Sys2Proof.Machine

variable {s : State}

/-! ### Disposal -/

/-- The place of a record is one that holds it. -/
theorem mem_of_placeOf {t : Tag} {p : Place} (h : placeOf s t = some p) : t ∈ zoneList s p := by
  unfold placeOf at h
  split_ifs at h with h1 h2 h3 h4 h5 h6 h7
  · cases h; simpa [zoneList] using h1
  · cases h; simpa [zoneList, LaneTab.get] using h2
  · cases h; simpa [zoneList, LaneTab.get] using h3
  · cases h; simpa [zoneList, LaneTab.get] using h4
  · cases h; simpa [zoneList] using h5
  · cases h; simpa [zoneList] using h6
  · cases h; simpa [zoneList] using h7
  · obtain ⟨n, hn, rfl⟩ := Option.map_eq_some_iff.mp h
    have := List.find?_some hn
    exact mem_zoneList_station.mpr (by simpa using this)

theorem mem_allNodes : ∀ n : Node, n ∈ allNodes := by decide

/-- A record without a place stands nowhere. -/
theorem not_mem_of_placeOf_none {t : Tag} (h : placeOf s t = none) (p : Place) : t ∉ zoneList s p := by
  unfold placeOf at h
  split_ifs at h with h1 h2 h3 h4 h5 h6 h7
  cases p with
  | station n =>
    intro hm
    have hall := List.find?_eq_none.mp (Option.map_eq_none_iff.mp h) n (mem_allNodes n)
    exact hall (by simpa using mem_zoneList_station.mp hm)
  | lane l => cases l <;> simp_all [zoneList, LaneTab.get]
  | intake => simpa [zoneList] using h1
  | buffer => simpa [zoneList] using h5
  | chamber => simpa [zoneList] using h6
  | exit => simpa [zoneList] using h7

/-- The zones after a disposal are those of a record moved to EXIT. -/
theorem zoneList_disposedFrom {t : Tag} {p : Place} (x : Place) :
    zoneList (disposedFrom s (some p) t) x = zoneList (putTail (takeOut s p t) .exit t) x := by
  cases p with
  | station n =>
    obtain ⟨pr, tu, h, -⟩ := leaveStation_frame s n t
    simp only [disposedFrom, h]
    exact zoneList_congr rfl rfl x
  | _ => exact zoneList_congr rfl rfl x

theorem keeps_disposedFrom {t : Tag} {r : Record} (hr : lookup s t = some r) (hpass : inPassage s t = false)
    (hroom : hasFreePlace s .exit = true) (hplace : placeOf s t ≠ some .chamber ∧ placeOf s t ≠ some .exit) :
    Keeps s (disposedFrom s (placeOf s t) t) := by
  obtain ⟨hmemr, htag, -⟩ := lookup_some hr
  let f : Record → Record := fun r => { r with stage := .rejected }
  have hf : ∀ r, (f r).tag = r.tag ∧ (HoldsOnce r → HoldsOnce (f r)) ∧ (RecordInRange r → RecordInRange (f r)) :=
    fun r => ⟨rfl, id, id⟩
  cases hp : placeOf s t with
  | none =>
    -- no such record: the zones hold every record of the table
    refine Apart.keeps { Apart.refl s with } id (tableSound_updRecord (f := f) rfl hf id) fun h => ?_
    obtain ⟨p, hm⟩ := zone_of_record h.2.2.1.1 hmemr
    exact absurd (htag ▸ hm) (not_mem_of_placeOf_none hp p)
  | some p =>
    have hmem := mem_of_placeOf hp
    have hne : p ≠ .exit := fun e => hplace.2 (e ▸ hp)
    have hnc : p ≠ .chamber := fun e => hplace.1 (e ▸ hp)
    have hzone := zoneList_disposedFrom (s := s) (t := t) (p := p)
    have hlists : ∀ x, x ≠ p → x ≠ .exit → zoneList (disposedFrom s (some p) t) x = zoneList s x := fun x hx hxe => by
      rw [hzone, zoneList_putTail_other _ _ _ hxe, zoneList_takeOut_other s p t hx]
    have hleft : zoneList (disposedFrom s (some p) t) p = (zoneList s p).filter (· != t) := by
      rw [hzone, zoneList_putTail_other _ _ _ hne, zoneList_takeOut_same s p t hmem]
    have hrec : ∃ g : Record → Record, (disposedFrom s (some p) t).records = (updRecord s t g).records
        ∧ (∀ r, (g r).tag = r.tag ∧ (HoldsOnce r → HoldsOnce (g r)) ∧ (RecordInRange r → RecordInRange (g r)))
        ∧ (stationOf p ≠ none → ∀ r, (g r).station = none) ∧ (stationOf p = none → ∀ r, (g r).station = r.station) := by
      cases p with
      | station n =>
        obtain ⟨pr, tu, h, -⟩ := leaveStation_frame s n t
        refine ⟨f ∘ stationedRecord none, ?_, fun r => ⟨rfl, id, id⟩, fun _ _ => rfl, fun e => by cases e⟩
        simp only [disposedFrom, h, updRecord, setStage, leaveQueues, putTail, leavePosition, takeOut, updStation, List.map_map]
        refine List.map_congr_left fun r _ => ?_
        by_cases e : r.tag = t <;> simp [e, f, stationedRecord]
      | _ => exact ⟨f, rfl, hf, fun e => absurd rfl e, fun _ _ => rfl⟩
    obtain ⟨g, hg, hgs, hgn, hgo⟩ := hrec
    have happ : Apart s (disposedFrom s (some p) t) ∧ (disposedFrom s (some p) t).zu.gates = s.zu.gates
        ∧ (disposedFrom s (some p) t).line = s.line ∧ (disposedFrom s (some p) t).cs = s.cs := by
      cases p with
      | station n =>
        obtain ⟨pr, tu, h, hdoor, hpwm⟩ := leaveStation_frame s n t
        simp only [disposedFrom, h]
        refine ⟨{ Apart.refl s with drive := fun hd => ?_, duty := fun hd => ?_ }, rfl, rfl, rfl⟩
        · exact ⟨hd.1, DriveSafe.congr (s := s) rfl rfl rfl (congrArg (·.filtered) hdoor) rfl hd.2⟩
        · show DutyInRange { s with tu := tu }
          simpa only [DutyInRange, hpwm] using hd
      | _ => exact ⟨{ Apart.refl s with }, rfl, rfl, rfl⟩
    obtain ⟨happ, hgates, hline, hcs⟩ := happ
    refine keeps_of_moved (t := t) (p := p) (q := .exit) happ (tableSound_updRecord hg hgs fun hc => ?_)
      (fun h => .of_tail hzone hmem hne (fun e => by cases e) ?_) hgates (by rw [hline]) hroom (by rw [hcs]) ?_ ?_ ?_
    · simpa only [CountersInRange, happ.cfg, hcs] using hc
    · rw [hg]
      refine records_of_update (s := s) g hgs fun r hm e => ?_
      by_cases hs : stationOf p = none
      · rw [hgo hs]
        exact station_none_of_mem h.1 h.2.2.1 hm (e ▸ hmem) hs rfl
      · exact hgn hs r
    · intro l x hx hhead
      by_cases hpi : Place.intake = p
      · have hl : (disposedFrom s (some p) t).zu.intake = s.zu.intake.filter (· != t) := by subst hpi; rfl
        rw [hl]
        exact head?_filter_ne hhead fun e => not_passing hpass (.lane l) (e ▸ hx)
      · have hl : (disposedFrom s (some p) t).zu.intake = s.zu.intake := hlists .intake hpi (by simp)
        rw [hl]
        exact hhead
    · intro x hx hm
      by_cases hpb : Place.buffer = p
      · have hl : (disposedFrom s (some p) t).zu.buffer = s.zu.buffer.filter (· != t) := by subst hpb; rfl
        rw [hl]
        have hxt : x ≠ t := fun e => not_passing hpass .feed (e ▸ hx)
        exact List.mem_filter.mpr ⟨hm, by simpa using hxt⟩
      · have hl : (disposedFrom s (some p) t).zu.buffer = s.zu.buffer := hlists .buffer hpb (by simp)
        rw [hl]
        exact hm
    · intro x hm
      have hl : (disposedFrom s (some p) t).zu.chamber = s.zu.chamber := hlists .chamber hnc.symm (by simp)
      rw [hl]
      exact hm

/-! ### New records -/

/-- A new cabinet joins the table, and its zone at the tail (R16, R205, R206). -/
theorem keeps_addRecord {r : Record} {p : Place} (hres : reservedTag r.tag = false) (hnew : lookup s r.tag = none)
    (hrange : RecordInRange r) (hholds : HoldsOnce r) (hst : r.station = stationOf p) (hfree : hasFreePlace s p = true) :
    Keeps s (addRecord s r p) := by
  have hfresh := lookup_none hnew hres
  have hrec : (addRecord s r p).records = s.records ++ [r] := by cases p <;> rfl
  have hgates : (addRecord s r p).zu.gates = s.zu.gates := by cases p <;> rfl
  have hd : TagsDistinct s → TagsDistinct (addRecord s r p) := by
    rintro ⟨hn, hs⟩
    rw [TagsDistinct, hrec]
    refine ⟨?_, fun x hx => ?_⟩
    · rw [List.map_append, List.nodup_append]
      refine ⟨hn, by simp, ?_⟩
      intro a ha b hb e
      obtain ⟨x, hx, rfl⟩ := List.mem_map.mp ha
      exact hfresh x hx (e.trans (List.mem_singleton.mp hb))
    · rcases List.mem_append.mp hx with hx | hx
      · exact hs x hx
      · rw [List.mem_singleton.mp hx]
        exact ⟨hres, hholds⟩
  have happ : Apart s (addRecord s r p) := by cases p <;> exact { Apart.refl s with }
  have hcfg : ∀ x, capacity (addRecord s r p) x = capacity s x := capacity_of_same happ.cfg
  refine happ.keeps (fun hg => by simpa only [GatesAgree, hgates] using hg) ?_ ?_
  · rintro ⟨htags, hr, hc⟩
    refine ⟨hd htags, fun x hx => ?_, by cases p <;> exact hc⟩
    rw [hrec] at hx
    rcases List.mem_append.mp hx with hx | hx
    · exact hr x hx
    · rw [List.mem_singleton.mp hx]
      exact hrange
  · rintro ⟨htags, hg, hc, hp⟩
    have hempty : (stationOf p).isSome → zoneList { s with records := s.records ++ [r] } p = [] := by
      intro h
      obtain ⟨n, hn⟩ := Option.isSome_iff_exists.mp h
      obtain rfl := stationOf_eq_some.mp hn
      have := of_decide_eq_true hfree
      simp only [hasReserved, gateInto, capacity, Bool.false_eq_true, if_false] at this
      exact List.length_eq_zero_iff.mp (by show (zoneList s (.station n)).length = 0; omega)
    refine ⟨hd htags, by simpa only [GatesAgree, hgates] using hg,
      standOnce_added hc hrec hfresh hst ?_ ?_ hcfg (fun x => by simp only [hasReserved, hgates]) hfree, ?_⟩
    · exact (zoneList_putTail_same { s with records := s.records ++ [r] } p r.tag hempty).trans
        (congrArg (· ++ [r.tag]) (zoneList_congr (s := s) rfl rfl p))
    · intro x hx
      exact (zoneList_putTail_other { s with records := s.records ++ [r] } p r.tag hx).trans (zoneList_congr (s := s) rfl rfl x)
    · refine hp.of_lists (by cases p <;> exact id) hgates (fun l x _ hx => ?_) (fun x _ hx => ?_) fun x hx => ⟨by cases p <;> exact hx, ?_⟩
      · cases p with
        | intake =>
          show (s.zu.intake ++ [r.tag]).head? = some x
          cases hi : s.zu.intake with
          | nil => rw [hi] at hx; cases hx
          | cons y l => rw [hi] at hx; exact hx
        | _ => exact hx
      · cases p with
        | buffer => exact List.mem_append_left _ hx
        | _ => exact hx
      · intro hx'
        cases p with
        | chamber => exact List.mem_append_left _ hx'
        | _ => exact hx'

end Sys2Proof.Machine
end

section
/-!
Batches adopted and retired (R22, R170, R175), the chamber's way into LOADING (R160), and the changes of the line state (R37, R204, R207).
-/

namespace Sys2Proof.Machine

variable {s : State}

/-! ### Retirement -/

/-- The place a route retires a record from. -/
def routePlace : Route → Place
  | .chamber => .chamber
  | .exit => .exit

/-- A retirement of a record of the table: its report, out of its list, its slot freed (R22, R23). -/
theorem retireRecord_some {t : Tag} {r : Record} (route : Route) (h : lookup s t = some r) :
    retireRecord s route t =
      { takeOut (toSupervisor s (dischargeReport s route r)) (routePlace route) t with
        records := s.records.filter (·.tag != t) } := by
  unfold retireRecord
  rw [h]
  cases route
  · simp [takeOut, routePlace]
  · simp [takeOut, routePlace]

/-- A record that is not in the table is not retired. -/
theorem retireRecord_none {t : Tag} (route : Route) (h : lookup s t = none) : retireRecord s route t = s := by
  unfold retireRecord
  rw [h]

/-- A retirement touches the notices, the records and the list of its route alone. -/
theorem retireRecord_frame (s : State) (route : Route) (t : Tag) :
    ∃ (lp : LinePort) (rs : List Record) (z : ZoneUnit), retireRecord s route t = { s with lp := lp, records := rs, zu := z }
      ∧ lp.requests = s.lp.requests ∧ lp.answers = s.lp.answers ∧ (s.lp.notices.length ≤ 16 → lp.notices.length ≤ 16)
      ∧ z.gates = s.zu.gates ∧ z.intake = s.zu.intake ∧ z.buffer = s.zu.buffer ∧ rs.Sublist s.records := by
  cases h : lookup s t with
  | none => exact ⟨s.lp, s.records, s.zu, retireRecord_none route h, rfl, rfl, id, rfl, rfl, rfl, .refl _⟩
  | some r =>
    obtain ⟨h1, h2, h3⟩ := placeNotice_lp s supervisorNode (dischargeReport s route r)
    rw [retireRecord_some route h]
    have hn : ∃ lp, toSupervisor s (dischargeReport s route r) = { s with lp := lp } := by
      unfold toSupervisor placeNotice
      split
      · exact ⟨_, rfl⟩
      · exact ⟨s.lp, rfl⟩
    obtain ⟨lp, hlp⟩ := hn
    have hlp' : (placeNotice s supervisorNode (dischargeReport s route r)).lp = lp := by
      show (toSupervisor s (dischargeReport s route r)).lp = lp
      rw [hlp]
    rw [hlp'] at h1 h2 h3
    rw [hlp]
    cases route
    · exact ⟨lp, _, _, rfl, h1, h2, h3, rfl, rfl, rfl, List.filter_sublist⟩
    · exact ⟨lp, _, _, rfl, h1, h2, h3, rfl, rfl, rfl, List.filter_sublist⟩

theorem apart_retireRecord (s : State) (route : Route) (t : Tag) :
    Apart s (retireRecord s route t) ∧ (retireRecord s route t).zu.gates = s.zu.gates
      ∧ (retireRecord s route t).records.Sublist s.records ∧ (retireRecord s route t).cs = s.cs := by
  obtain ⟨lp, rs, z, h, h1, h2, h3, h4, -, -, h5⟩ := retireRecord_frame s route t
  rw [h]
  exact ⟨{ Apart.refl s with requests := by rw [h1], answers := by rw [h2], notices := h3 }, h4, h5, rfl⟩

/-- A table that has lost records is sound. -/
theorem TableSound.sublist {u : State} (hr : u.records.Sublist s.records) (hc : CountersInRange s → CountersInRange u)
    (h : TableSound s) : TableSound u := by
  obtain ⟨⟨hn, hs⟩, hrange, hcount⟩ := h
  exact ⟨⟨hn.sublist (hr.map _), fun r hm => hs r (hr.subset hm)⟩, fun r hm => hrange r (hr.subset hm), hc hcount⟩

/-- The cabinets stand once after one of a list is retired from it. -/
theorem standOnce_retireRecord {t : Tag} {route : Route} (hd : TagsDistinct s) (hc : CabinetsStandOnce s)
    (hm : (lookup s t).isSome → t ∈ zoneList s (routePlace route)) :
    TagsDistinct (retireRecord s route t) ∧ CabinetsStandOnce (retireRecord s route t) := by
  cases h : lookup s t with
  | none =>
    rw [retireRecord_none route h]
    exact ⟨hd, hc⟩
  | some r =>
    have hmem := hm (by rw [h]; rfl)
    have hsub := (apart_retireRecord s route t).2.2.1
    refine ⟨⟨hd.1.sublist (hsub.map _), fun x hx => hd.2 x (hsub.subset hx)⟩, ?_⟩
    rw [retireRecord_some route h]
    have hz : ∀ x, zoneList (toSupervisor s (dischargeReport s route r)) x = zoneList s x := zoneList_congr (by simp) (by simp)
    refine standOnce_removed (p := routePlace route) hd hc rfl hmem ?_ ?_ ?_ ?_
    · refine (zoneList_congr rfl rfl _).trans ((zoneList_takeOut_same _ _ t (by rw [hz]; exact hmem)).trans ?_)
      rw [hz]
    · intro x hx
      exact (zoneList_congr rfl rfl _).trans ((zoneList_takeOut_other _ _ t hx).trans (hz x))
    · exact capacity_of_same (by cases route <;> simp [takeOut, routePlace])
    · intro x
      cases route <;> simp [hasReserved, takeOut, routePlace]

/-- Retire of a record in EXIT (R21). -/
theorem keeps_retireExit {t : Tag} (hm : t ∈ s.zu.exit) : Keeps s (retireRecord s .exit t) := by
  obtain ⟨happ, hgates, hsub, hcs⟩ := apart_retireRecord s .exit t
  refine happ.keeps (fun hg => by simpa only [GatesAgree, hgates] using hg)
    (TableSound.sublist hsub fun hc => by simpa only [CountersInRange, happ.cfg, hcs] using hc) fun h => ?_
  obtain ⟨hd, hg, hc, hp⟩ := h
  obtain ⟨hd', hc'⟩ := standOnce_retireRecord (t := t) (route := .exit) hd hc fun _ => hm
  refine ⟨hd', by simpa only [GatesAgree, hgates] using hg, hc', ?_⟩
  obtain ⟨lp, rs, z, h, -, -, -, hz, hi, hb, -⟩ := retireRecord_frame s .exit t
  refine hp.of_lists (by rw [h]; exact id) hgates (fun l x _ hx => by rw [h]; rw [← hi] at hx; exact hx)
    (fun x _ hx => by rw [h]; rw [← hb] at hx; exact hx) fun x hx => ⟨by rw [hcs] at hx; exact hx, fun hx' => ?_⟩
  cases hl : lookup s t with
  | none => rw [retireRecord_none _ hl]; exact hx'
  | some r =>
    rw [retireRecord_some _ hl]
    show x ∈ (toSupervisor s (dischargeReport s .exit r)).zu.chamber
    simpa using hx'

/-! ### The end of a batch -/

/-- The batch retired, head first. -/
def batchRetired (s : State) (l : List Tag) : State := l.foldl (fun s t => retireRecord s .chamber t) s

theorem apart_batchRetired (l : List Tag) (s : State) :
    Apart s (batchRetired s l) ∧ (batchRetired s l).zu.gates = s.zu.gates ∧ (batchRetired s l).records.Sublist s.records
      ∧ (batchRetired s l).cs = s.cs ∧ (batchRetired s l).line = s.line ∧ (batchRetired s l).zu.intake = s.zu.intake
      ∧ (batchRetired s l).zu.buffer = s.zu.buffer := by
  induction l generalizing s with
  | nil => exact ⟨.refl s, rfl, .refl _, rfl, rfl, rfl, rfl⟩
  | cons t l ih =>
    obtain ⟨h1, h2, h3, h4⟩ := apart_retireRecord s .chamber t
    obtain ⟨k1, k2, k3, k4, k5, k6, k7⟩ := ih (retireRecord s .chamber t)
    obtain ⟨lp, rs, z, h, -, -, -, -, hi, hb, -⟩ := retireRecord_frame s .chamber t
    exact ⟨h1.trans k1, k2.trans h2, k3.trans h3, k4.trans h4, k5.trans (by rw [h]), k6.trans (by rw [h]; exact hi),
      k7.trans (by rw [h]; exact hb)⟩

/-- Retiring one record of CHAMBER leaves every other there. -/
theorem chamber_retireRecord {t x : Tag} (hx : (lookup (retireRecord s .chamber t) x).isSome) (hm : (lookup s x).isSome → x ∈ s.zu.chamber) :
    x ∈ (retireRecord s .chamber t).zu.chamber := by
  cases hl : lookup s t with
  | none =>
    rw [retireRecord_none _ hl] at hx ⊢
    exact hm hx
  | some r =>
    obtain ⟨y, hy⟩ := Option.isSome_iff_exists.mp hx
    obtain ⟨hmem, htag, hres⟩ := lookup_some hy
    rw [retireRecord_some _ hl] at hmem ⊢
    obtain ⟨hin, hne⟩ := List.mem_filter.mp hmem
    have hs : (lookup s x).isSome := by
      rw [lookup, hres, if_neg Bool.false_ne_true, List.find?_isSome]
      exact ⟨y, hin, by simpa using htag⟩
    show x ∈ ((toSupervisor s (dischargeReport s .chamber r)).zu.chamber).filter (· != t)
    rw [toSupervisor_zu]
    refine List.mem_filter.mpr ⟨hm hs, ?_⟩
    rw [htag] at hne
    exact hne

theorem standOnce_batchRetired (l : List Tag) (s : State) (hd : TagsDistinct s) (hc : CabinetsStandOnce s)
    (hm : ∀ t ∈ l, (lookup s t).isSome → t ∈ s.zu.chamber) :
    TagsDistinct (batchRetired s l) ∧ CabinetsStandOnce (batchRetired s l) := by
  induction l generalizing s with
  | nil => exact ⟨hd, hc⟩
  | cons t l ih =>
    obtain ⟨hd', hc'⟩ := standOnce_retireRecord (t := t) (route := .chamber) hd hc (hm t List.mem_cons_self)
    exact ih _ hd' hc' fun x hx hs => chamber_retireRecord hs (hm x (List.mem_cons_of_mem _ hx))

/-- The batch is retired and its marks are cleared (R170). -/
theorem keeps_batchEnds (s : State) (ff : Nat) (step : CondenseStep) (b : Baseline) (total : Option Nat) :
    Keeps s { batchRetired s s.cs.batchList with
      cs.batchList := [], cs.ffCount := ff, cs.step := step, cs.baseline := b, cs.total := total } := by
  obtain ⟨happ, hgates, hsub, hcs, hline, hi, hb⟩ := apart_batchRetired s.cs.batchList s
  refine Apart.keeps (happ.trans { Apart.refl _ with }) (fun hg => ?_) (TableSound.sublist hsub fun hc => ?_) fun h => ?_
  · show GatesAgree (batchRetired s s.cs.batchList)
    simpa only [GatesAgree, hgates] using hg
  · exact ⟨by rw [happ.cfg]; exact hc.1, by show (batchRetired s s.cs.batchList).cs.batchCounter ≤ _; rw [hcs]; exact hc.2.1,
      fun e => absurd rfl e⟩
  · obtain ⟨hd, hg, hc, hp⟩ := h
    obtain ⟨hd', hc'⟩ := standOnce_batchRetired s.cs.batchList s hd hc fun t ht _ => hp.2.2.2.2 t ht
    refine ⟨hd', (by show GatesAgree (batchRetired s s.cs.batchList); simpa only [GatesAgree, hgates] using hg), hc', ?_⟩
    exact hp.of_lists (fun e => by show (batchRetired s s.cs.batchList).line.state = _; rw [hline]; exact e) hgates
      (fun l x _ hx => by show (batchRetired s s.cs.batchList).zu.intake.head? = _; rw [hi]; exact hx)
      (fun x _ hx => by show x ∈ (batchRetired s s.cs.batchList).zu.buffer; rw [hb]; exact hx) fun x hx => absurd hx (by simp)

/-! ### Into LOADING -/

/-- A committed staged recipe becomes the working one, outside SHREDDING (R159). -/
theorem steady_adoptRecipe (s : State) (hp : s.cs.phase ≠ .shredding) :
    Steady s { s with cs.working := s.cs.staged, cs.commitMark := false } where
  toCalm := { Calm.refl s with }
  sensors := id
  drive h := ⟨h.1, fun ho => absurd (h.2 ho).1 hp⟩
  duty h := ⟨h.2.1, h.2.1, h.2.2.1, h.2.2.2.1, fun e => absurd e hp⟩

theorem keeps_enterLoading (s : State) (hp : s.cs.phase ≠ .shredding) : Keeps s (enterLoading s) := by
  unfold enterLoading
  split
  · have hready : ∀ u : State, Steady u (enterPhase { u with cs.loadExpired := false, cs.ffCount := 0 } .loading .lineRun) :=
      fun u =>
        have hq : Quiet u { u with cs.loadExpired := false, cs.ffCount := 0 } := { Quiet.refl u with }
        (hq.enterPhase .loading .lineRun).1
    refine .after (keeps_selectionAttempt _) ?_
    dsimp only
    split
    · exact ((steady_adoptRecipe s hp).trans (hready _)).keeps
    · exact (hready s).keeps
  · exact .refl s

theorem keeps_idleGoesOn (s : State) (hp : s.cs.phase ≠ .shredding) : Keeps s (idleGoesOn s) := by
  unfold idleGoesOn
  split
  · exact keeps_enterLoading s hp
  · exact .refl s

/-- After its entry, the phase is the one entered. -/
theorem enterPhase_phase (s : State) (p : Phase) (c : PhaseCause) : (enterPhase s p c).cs.phase = p := by
  obtain ⟨w, o, h⟩ := drivePattern_frame { s with cs.phase := p }
  unfold enterPhase
  simp only [toSupervisor_cs, h]

theorem keeps_endUnloading (s : State) : Keeps s (endUnloading s) := by
  refine .after (keeps_idleGoesOn _ ?_) (.after (steady_enterPhase _ _ _).1.keeps (keeps_batchEnds s 0 .none .none none))
  rw [enterPhase_phase]
  decide

/-- The records adopted into CHAMBER form a batch under the next number (R175). -/
theorem keeps_adoptBatch (s : State) : Keeps s (adoptBatch s) := by
  let k := nextBatch s.cs.batchCounter
  let u := s.zu.chamber.foldl (fun s t => updRecord s t (batchedRecord k)) s
  have hu : u = { s with records := u.records } := by
    have h := foldl_updRecord (batchedRecord k) s.zu.chamber s
    show s.zu.chamber.foldl (fun s t => updRecord s t (batchedRecord k)) s
      = { s with records := (s.zu.chamber.foldl (fun s t => updRecord s t (batchedRecord k)) s).records }
    rw [h]
  have hstand : ∀ (l : List Tag) (s : State), Standing s → Standing (l.foldl (fun s t => updRecord s t (batchedRecord k)) s) := by
    intro l
    induction l with
    | nil => exact fun _ h => h
    | cons t l ih => exact fun s h => ih _ (standing_updRecord t _ (fun _ => ⟨rfl, rfl, id⟩) h)
  have hsteady : CountersInRange s → Quiet s u := fun hc =>
    Quiet.foldl (f := fun s t => updRecord s t (batchedRecord k)) (fun s t => quiet_updRecord s t _ (batchedRecord_sound (nextBatch_range hc.2.1))) _ s
  have hform : ∀ ff, Keeps s { u with cs.batchCounter := k, cs.batchList := s.zu.chamber, cs.ffCount := ff } := by
    intro ff
    refine Apart.keeps (by rw [hu]; exact { Apart.refl s with }) (by rw [hu]; exact id) (fun h => ?_) fun h => ?_
    · obtain ⟨hd, hr, -⟩ := (hsteady h.2.2).toCalm.table h
      refine ⟨hd, hr, ?_, (nextBatch_range h.2.2.2.1).2, fun _ => (nextBatch_range h.2.2.2.1).1⟩
      rw [hu]
      exact h.2.2.1
    · obtain ⟨hd, hg, hc, hrun, hone, hlane, hfeed, -⟩ := hstand s.zu.chamber s h
      refine ⟨hd, hg, hc, hrun, hone, hlane, hfeed, fun x hx => ?_⟩
      show x ∈ u.zu.chamber
      rw [hu]
      exact hx
  have heq : adoptBatch s = enterAborted
      { u with cs.batchCounter := k, cs.batchList := s.zu.chamber, cs.ffCount := ffCountOf u s.zu.chamber } .adopted := by
    have hz : u.zu.chamber = s.zu.chamber := by rw [hu]
    show enterAborted { u with cs.batchCounter := k, cs.batchList := u.zu.chamber, cs.ffCount := ffCountOf u u.zu.chamber } _ = _
    rw [hz]
  rw [heq]
  exact (hform _).trans (steady_enterAborted _ _).keeps

theorem keeps_chamberRun (s : State) : Keeps s (chamberRun s) := by
  unfold chamberRun
  split
  · split
    · refine .after (keeps_idleGoesOn _ ?_) ((quiet_stopChamberChannels s).enterPhase _ _).1.keeps
      rw [enterPhase_phase]
      decide
    · exact (steady_enterAborted s _).keeps
  · rename_i hp
    split
    · exact keeps_idleGoesOn s (by rw [hp]; decide)
    · exact keeps_adoptBatch s
  · exact .refl s

theorem keeps_phaseExpired (s : State) (d : Clock) : Keeps s (phaseExpired s d) := by
  unfold phaseExpired
  split
  · exact (steady_enterAborted s _).keeps
  · split
    · exact (steady_enterAborted s _).keeps
    · have hq : Quiet s { s with cs.purgeMinDone := true
                                 tu.phase := chStart (d - sec s.cs.working.purgeMin + sec s.cs.working.purgeMax) } := { Quiet.refl s with }
      dsimp only
      split
      · exact (hq.steady.trans (steady_enterShredding _)).keeps
      · exact hq.keeps
  · exact (steady_enterCondensing s _).keeps
  · exact Quiet.keeps { Quiet.refl s with }
  · split
    · exact Quiet.keeps { Quiet.refl s with }
    · exact (quiet_enterWeigh s).keeps
    · exact .refl s
  · exact keeps_endUnloading s
  · exact .refl s

/-! ### The line state -/

/-- A change of line state that no RELEASED gate stands against. -/
theorem keeps_setLine (s : State) (line : LineElement)
    (h : Standing s → ∀ g, (s.zu.gates.get g).state = .released → line.state = .run) : Keeps s { s with line := line } :=
  Apart.keeps { Apart.refl s with } id id fun hs => ⟨hs.1, hs.2.1, hs.2.2.1, h hs, hs.2.2.2.2⟩

/-- What the abandonment of the passages does to each gate: a RELEASED one becomes IDLE (R37). -/
theorem gate_closeReleased (l : List Gate) (s : State) (g : Gate) :
    ((l.foldl (fun s g => if (s.zu.gates.get g).state = .released then gateToIdle s g else s) s).zu.gates.get g)
      = if g ∈ l ∧ (s.zu.gates.get g).state = .released then .initial else s.zu.gates.get g := by
  induction l generalizing s with
  | nil => simp
  | cons x l ih =>
    rw [List.foldl_cons, ih]
    by_cases hx : (s.zu.gates.get x).state = .released
    · rw [if_pos hx]
      by_cases hg : g = x
      · subst hg
        simp [gateToIdle, setPassage, setGate, hx, GateEntry.initial]
      · simp [gateToIdle, setPassage, setGate, GateTab.get_set_other _ hg, hg]
    · rw [if_neg hx]
      by_cases hg : g = x
      · subst hg
        simp [hx]
      · simp [hg]

theorem mem_allGates (g : Gate) : g ∈ allGates := by
  cases g with
  | lane l => cases l <;> decide
  | feed => decide

theorem gate_abandonPassages (s : State) (g : Gate) :
    ((abandonPassages s).zu.gates.get g) = if (s.zu.gates.get g).state = .released then .initial else s.zu.gates.get g := by
  have h := gate_closeReleased allGates s g
  simp only [mem_allGates, true_and] at h
  exact h

theorem keeps_abandonPassages (s : State) : Keeps s (abandonPassages s) := by
  have key : ∀ (l : List Gate) (s : State),
      Keeps s (l.foldl (fun s g => if (s.zu.gates.get g).state = .released then gateToIdle s g else s) s) := by
    intro l
    induction l with
    | nil => exact fun s => .refl s
    | cons g l ih =>
      intro s
      refine .after (ih _) ?_
      show Keeps s (if (s.zu.gates.get g).state = .released then gateToIdle s g else s)
      split
      · exact keeps_gateToIdle s g
      · exact .refl s
  exact key allGates s

/-- The abandonment of the passages does not read the line state. -/
theorem abandonPassages_line (s : State) (line : LineElement) :
    abandonPassages { s with line := line } = { abandonPassages s with line := line } := by
  have key : ∀ (l : List Gate) (s : State),
      l.foldl (fun s g => if (s.zu.gates.get g).state = .released then gateToIdle s g else s) { s with line := line }
        = { l.foldl (fun s g => if (s.zu.gates.get g).state = .released then gateToIdle s g else s) s with line := line } := by
    intro l
    induction l with
    | nil => exact fun _ => rfl
    | cons g l ih =>
      intro s
      rw [List.foldl_cons, List.foldl_cons, ← ih]
      congr 1
      by_cases h : (s.zu.gates.get g).state = .released
      · simp only [if_pos h]; rfl
      · simp only [if_neg h]
  exact key allGates s

theorem keeps_enterStopped (s : State) : Keeps s (enterStopped s) := by
  unfold enterStopped
  refine .after (steady_chamberStopped _).keeps (.after (quiet_transfersStopped _).keeps ?_)
  show Keeps s (abandonPassages { s with line := { s.line with state := .stopped } })
  rw [abandonPassages_line]
  refine .trans (keeps_abandonPassages s) (keeps_setLine _ _ fun _ g hg => ?_)
  rw [gate_abandonPassages] at hg
  split at hg
  · cases hg
  · contradiction

theorem keeps_enterRun (s : State) : Keeps s (enterRun s) := by
  unfold enterRun
  exact .after (keeps_routingAttempt _) (.after (quiet_grantBoth _).keeps (.after (keeps_chamberRun _)
    (.after (Quiet.foldl quiet_resumeWindow _ _).keeps (keeps_setLine s { s.line with state := .run } fun _ _ _ => rfl))))

theorem keeps_estopChanged (s : State) : Keeps s (estopChanged s) := by
  unfold estopChanged
  split
  · have hq : Quiet s (freezeChamberChannels { s with line.estopActive := true }) := { Quiet.refl s with }
    dsimp only
    split
    · exact hq.keeps.trans (keeps_enterStopped _)
    · exact hq.keeps
  · exact Quiet.keeps { Quiet.refl s with }

theorem keeps_reconcileExpired (s : State) : Keeps s (reconcileExpired s) := by
  unfold reconcileExpired
  split
  · split
    · exact Quiet.keeps { Quiet.refl s with }
    · exact keeps_enterRun s
  · exact .refl s

end Sys2Proof.Machine
end

section
/-!
The sensor poller and the configuration (chapters 08 and 12.2): polls, slots and the enabled mark keep the sensors' agreement, and a write
keeps every item in its range.
-/

namespace Sys2Proof.Machine

variable (s : State)

/-! ### One sensor entry -/

/-- The entry reads as before: its latest value, its mark and its state stay, and its kind unless it is disabled. -/
structure SameReading (e e' : Sensor) : Prop where
  latest : e'.latest = e.latest
  enabled : e'.enabled = e.enabled
  state : e'.state = e.state
  kind : e.enabled = true → e'.kind = e.kind

theorem getElem_updSensor (i j : SensorIx) (f : Sensor → Sensor) :
    (updSensor s i f).sn.sensors[j] = if i = j then f s.sn.sensors[i] else s.sn.sensors[j] := by
  show (s.sn.sensors.set i (f s.sn.sensors[i]))[j] = _
  by_cases e : i = j
  · subst e
    simp
  · have : i.val ≠ j.val := fun h => e (Fin.ext h)
    simp [e, this]

/-- A change of one entry keeps the sensors' agreement when the entry itself agrees afterwards. -/
theorem SensorsAgree.updSensor {i : SensorIx} {f : Sensor → Sensor} (h : SensorsAgree s)
    (hl : (f s.sn.sensors[i]).enabled = false → (f s.sn.sensors[i]).latest = none)
    (he : s.sn.sensors[i].enabled = true → (f s.sn.sensors[i]).enabled = true) : SensorsAgree (updSensor s i f) := by
  refine ⟨fun j hj => ?_, fun p hp hd => ?_⟩
  · rw [getElem_updSensor] at hj ⊢
    split at hj
    · rw [if_pos ‹_›]
      exact hl hj
    · rw [if_neg ‹_›]
      exact h.1 j hj
  · have hen := h.2 p hp hd
    rw [getElem_updSensor]
    split
    · subst i
      exact he hen
    · exact hen

theorem steady_updSensor (i : SensorIx) (f : Sensor → Sensor) (hf : SameReading s.sn.sensors[i] (f s.sn.sensors[i])) :
    Steady s (updSensor s i f) where
  toCalm := { Calm.refl s with }
  sensors h := h.updSensor s (fun e => hf.latest ▸ h.1 i (hf.enabled ▸ e)) fun e => hf.enabled ▸ e
  duty := id
  drive h := by
    obtain ⟨ha, hd⟩ := h
    have hread : ∀ j, lelReading (updSensor s i f) j = lelReading s j := by
      intro j
      unfold lelReading
      rw [getElem_updSensor]
      by_cases e : i = j
      · subst e
        rw [if_pos rfl]
        by_cases hen : s.sn.sensors[i].enabled = true
        · simp only [hf.latest, hf.state, hf.kind hen]
        · simp only [hf.latest, ha.1 i (by simpa using hen), Option.map_none, ite_self]
      · rw [if_neg e]
    have hlel : effectiveLel (updSensor s i f) = effectiveLel s := by
      have : lelReading (updSensor s i f) = lelReading s := funext hread
      simp only [effectiveLel, this, updSensor_cs]
    have ho2 : latestO2 (updSensor s i f) = latestO2 s := by
      unfold latestO2
      rw [getElem_updSensor, updSensor_cs]
      split
      · rw [hf.latest, ‹i = _›]
      · rfl
    have hun : o2Unusable (updSensor s i f) = o2Unusable s := by
      unfold o2Unusable
      rw [getElem_updSensor, updSensor_cs]
      split
      · subst i
        by_cases hen : s.sn.sensors[s.cs.working.o2Sensor].enabled = true
        · simp only [hf.state, hf.enabled, hf.kind hen]
        · simp only [hf.enabled, Bool.eq_false_iff.mpr hen, Bool.not_false, Bool.or_true, Bool.true_or]
      · rfl
    refine ⟨ha.updSensor s (fun e => hf.latest ▸ ha.1 i (hf.enabled ▸ e)) fun e => hf.enabled ▸ e, ?_⟩
    show DriveSafe (updSensor s i f)
    unfold DriveSafe
    rw [gasFailed, hlel, hun, ho2]
    exact hd

/-- A sensor entry is changed and CS told: the drive is judged, whatever the entry has become. -/
theorem steady_sensed {s u : State} (hc : Calm s u) (hd : DutyInRange s → DutyInRange u) (hs : SensorsAgree s → SensorsAgree u)
    (i : SensorIx) (b : Bool) : Steady s (chamberSensor u i b) where
  toCalm := hc.trans (steady_chamberSensor u i b).toCalm
  sensors := (steady_chamberSensor u i b).sensors ∘ hs
  drive h := ⟨(steady_chamberSensor u i b).sensors (hs h.1), driveSafe_judgeDrive _⟩
  duty := (steady_chamberSensor u i b).duty ∘ hd

/-! ### Slots and polls -/

theorem nextEnabled_enabled {i : SensorIx} (h : nextEnabled s = some i) : s.sn.sensors[i].enabled = true := by
  simpa using List.find?_some h

theorem sensorsAgree_beginSlot (c : Clock) (h : ∀ i : SensorIx, s.sn.sensors[i].enabled = false → s.sn.sensors[i].latest = none)
    (hp : SensorsAgree s ∨ s.sn.inFlight = none) : SensorsAgree (beginSlot s c) := by
  unfold beginSlot
  dsimp only
  split
  · rename_i i hi
    refine ⟨h, fun p hp _ => ?_⟩
    obtain rfl := Option.some.inj hp
    exact nextEnabled_enabled { s with sn.slotDue := c + msec s.cfg.slotInterval } hi
  · refine ⟨h, fun p hf => ?_⟩
    rcases hp with hp | hp
    · exact hp.2 p hf
    · exact absurd hf (by show s.sn.inFlight ≠ _; rw [hp]; simp)

theorem beginSlot_frame (c : Clock) : ∃ sn, beginSlot s c = { s with sn := sn } ∧ sn.sensors = s.sn.sensors := by
  unfold beginSlot
  dsimp only
  split
  · exact ⟨_, rfl, rfl⟩
  · exact ⟨_, rfl, rfl⟩

theorem steady_beginSlot (c : Clock) : Steady s (beginSlot s c) := by
  obtain ⟨sn, h, hs⟩ := beginSlot_frame s c
  have ha : SensorsAgree s → SensorsAgree (beginSlot s c) := fun ha => sensorsAgree_beginSlot s c ha.1 (.inl ha)
  refine { Steady.refl s with toCalm := by rw [h]; exact { Calm.refl s with }, sensors := ha, drive := fun hd => ⟨ha hd.1, ?_⟩, duty := by rw [h]; exact id }
  rw [h]
  exact DriveSafe.congr hs rfl rfl rfl rfl hd.2

theorem steady_slotStarts : Steady s (slotStarts s) := by
  unfold slotStarts
  split
  · exact steady_beginSlot s _
  · exact .refl s

theorem quiet_sendLimit (i : SensorIx) (b : SensorState) : Quiet s (sendLimit s i b) := by
  unfold sendLimit
  dsimp only
  split
  · exact .refl s
  · exact quiet_toSupervisor s _

theorem steady_closePoll (l : List LineSignal) : Steady s (closePoll s l) where
  toCalm := { Calm.refl s with }
  sensors h := ⟨h.1, fun _ e => absurd e (by simp [closePoll])⟩
  drive h := ⟨⟨h.1.1, fun _ e => absurd e (by simp [closePoll])⟩, DriveSafe.congr (s := s) rfl rfl rfl rfl rfl h.2⟩
  duty := id

theorem goodPoll_enabled (e : Sensor) (w : Nat) (now : Clock) : (goodPoll e w now).enabled = e.enabled := by
  unfold goodPoll
  dsimp only
  split
  · split
    · rfl
    · rfl
  · rfl

theorem failedPoll_keeps (e : Sensor) :
    (failedPoll e).enabled = e.enabled ∧ (failedPoll e).latest = e.latest ∧ (failedPoll e).kind = e.kind := by
  unfold failedPoll
  dsimp only
  split
  · exact ⟨rfl, rfl, rfl⟩
  · split
    · exact ⟨rfl, rfl, rfl⟩
    · exact ⟨rfl, rfl, rfl⟩

/-- The poll in flight ends: a poll that is not discarded is of an enabled entry. -/
theorem steady_pollEnds (a b : Transaction) : Steady s (pollEnds s a b) := by
  unfold pollEnds
  split
  · exact .refl s
  · rename_i p hp
    dsimp only
    have hclose := steady_closePoll s (pollSent p a b)
    split
    · exact hclose
    · rename_i hd
      have hen : SensorsAgree s → (closePoll s (pollSent p a b)).sn.sensors[p.index].enabled = true := fun h => h.2 p hp (by simpa using hd)
      generalize closePoll s (pollSent p a b) = u at hclose hen
      split
      · rename_i w _
        unfold pollGood
        dsimp only
        refine steady_handed (Calm.trans (t := updSensor u p.index fun e => goodPoll e w u.clock) ?_ (quiet_sendLimit _ _ _).toCalm)
          ?_ ?_ _ _ _
        · exact hclose.toCalm.trans { Calm.refl u with }
        · exact fun h => (quiet_sendLimit _ _ _).steady.duty (hclose.duty h)
        · refine fun h => (quiet_sendLimit _ _ _).steady.sensors ((hclose.sensors h).updSensor u (fun e => ?_) fun e => ?_)
          · rw [goodPoll_enabled, hen h] at e
            cases e
          · rw [goodPoll_enabled]
            exact e
      · unfold pollFailed
        dsimp only
        obtain ⟨h1, h2, h3⟩ := failedPoll_keeps u.sn.sensors[p.index]
        split
        · rename_i hst
          rw [getElem_updSensor, if_pos rfl] at hst
          exact hclose.trans (steady_updSensor u p.index failedPoll ⟨h2, h1, hst, fun _ => h3⟩)
        · refine steady_handed (Calm.trans (t := updSensor u p.index failedPoll) ?_ (quiet_sendLimit _ _ _).toCalm) ?_ ?_ _ _ _
          · exact hclose.toCalm.trans { Calm.refl u with }
          · exact fun h => (quiet_sendLimit _ _ _).steady.duty (hclose.duty h)
          · refine fun h => (quiet_sendLimit _ _ _).steady.sensors ((hclose.sensors h).updSensor u (fun e => ?_) fun e => ?_)
            · rw [h2]
              exact (hclose.sensors h).1 _ (h1 ▸ e)
            · rw [h1]
              exact e

theorem steady_immediateAnswer (r : Requester) : Steady s (immediateAnswer s r) := by
  unfold immediateAnswer
  split
  · exact .after (steady_takeAnswer _ _ _) (Quiet.steady { Quiet.refl s with })
  · exact .refl s

theorem steady_setEnabled (i : SensorIx) (b : Bool) : Steady s (setEnabled s i b) := by
  unfold setEnabled
  split
  · exact .refl s
  · split
    · refine steady_sensed (u := updSensor s i fun e => { clearReadings e with enabled := true }) { Calm.refl s with } id (fun h => ?_) _ _
      exact h.updSensor s (fun e => absurd e (by simp)) fun _ => rfl
    · let t := updSensor s i fun e => { clearReadings e with enabled := false }
      let u := { t with sn.inFlight := s.sn.inFlight.map fun p : Poll => if p.index = i then { p with discarded := true } else p }
      show Steady s (handOutcome u i false none)
      refine steady_handed (s := s) (u := u) { Calm.refl s with } id (fun h => ⟨fun j hj => ?_, fun p hp hd => ?_⟩) _ _ _
      · have hj' : (updSensor s i fun e => { clearReadings e with enabled := false }).sn.sensors[j].enabled = false := hj
        show (updSensor s i fun e => { clearReadings e with enabled := false }).sn.sensors[j].latest = none
        rw [getElem_updSensor] at hj' ⊢
        split
        · rfl
        · rw [if_neg ‹_›] at hj'
          exact h.1 j hj'
      · obtain ⟨q, hq, rfl⟩ := Option.map_eq_some_iff.mp (show s.sn.inFlight.map (fun p => if p.index = i then { p with discarded := true } else p) = some p from hp)
        by_cases e : q.index = i
        · rw [if_pos e] at hd
          cases hd
        · rw [if_neg e] at hd
          simp only [if_neg e]
          show t.sn.sensors[q.index].enabled = true
          rw [getElem_updSensor, if_neg (Ne.symm e)]
          exact h.2 q hq hd

/-! ### Writes of the line and class tables -/

theorem lineValue_withLine_same (c : ConfigTables) (i : LineItem) (v : Nat) : lineValue (withLine c i v) i = v := by
  cases i <;> rfl

theorem lineValue_withLine_other (c : ConfigTables) (v : Nat) {i j : LineItem} (h : j ≠ i) :
    lineValue (withLine c i v) j = lineValue c j := by
  cases i <;> cases j <;> (try rfl) <;> exact absurd rfl h

/-- The tables with other line items only: what else an invariant reads of them stays. -/
theorem withLine_rest (c : ConfigTables) (i : LineItem) (v : Nat) :
    let c' := withLine c i v
    c'.capIntake = c.capIntake ∧ c'.capLanes = c.capLanes ∧ c'.capBuffer = c.capBuffer ∧ c'.capExit = c.capExit
      ∧ dwellOf c' = dwellOf c ∧ oilPm c' = oilPm c := by
  cases i <;> exact ⟨rfl, rfl, rfl, rfl, by funext x; cases x <;> rfl, by funext x; cases x <;> rfl⟩

/-- The configuration is changed where the capacities stay. -/
theorem keeps_cfg (c : ConfigTables) (hcap : ∀ p, capacity { s with cfg := c } p = capacity s p)
    (hre : s.cfg.reevacMax ≤ 3 → c.reevacMax ≤ 3) (hcfg : ConfigInRange s → ConfigInRange { s with cfg := c }) :
    Keeps s { s with cfg := c } :=
  { Keeps.refl s with
    table := fun h => ⟨h.1, h.2.1, hre h.2.2.1, h.2.2.2⟩
    config := hcfg
    standing := fun h => ⟨h.1, h.2.1, ⟨h.2.2.1.1, fun p => by rw [hcap]; exact h.2.2.1.2.1 p, h.2.2.1.2.2⟩, h.2.2.2⟩ }

theorem keeps_writeLine {t : State} {v w : Value} {i : LineItem} (h : writeLine s i v = .ok (t, w)) : Keeps s t := by
  unfold writeLine at h
  split at h
  · cases h
  · rename_i k _
    dsimp only at h
    split at h
    · rename_i hp
      cases h
      obtain ⟨h1, h2, h3, h4, h5, h6⟩ := withLine_rest s.cfg i (clampNat (lineRange i).1 (lineRange i).2 k)
      have hlim : (lineRange i).1 ≤ (lineRange i).2 := by cases i <;> decide
      have hcl := clampNat_range hlim k
      have hcap : ∀ p, capacity { s with cfg := withLine s.cfg i (clampNat (lineRange i).1 (lineRange i).2 k) } p = capacity s p := by
        intro p
        cases p <;> simp only [capacity, h1, h2, h3, h4]
      have hval : ∀ j, (∀ j, (lineRange j).1 ≤ lineValue s.cfg j ∧ lineValue s.cfg j ≤ (lineRange j).2) ∨ j = i ∨ lineValue s.cfg j ≤ (lineRange j).2 →
          lineValue (withLine s.cfg i (clampNat (lineRange i).1 (lineRange i).2 k)) j ≤ (lineRange j).2 := by
        intro j hj
        by_cases e : j = i
        · subst e
          rw [lineValue_withLine_same]
          exact hcl.2
        · rw [lineValue_withLine_other _ _ e]
          rcases hj with hj | hj | hj
          · exact (hj j).2
          · exact absurd hj e
          · exact hj
      refine keeps_cfg s _ hcap (fun hre => hval .reevacMax (.inr (.inr hre))) fun hc => ?_
      obtain ⟨hline, hclass, -, -, hz, htotal⟩ := hc
      simp only [linePairs, Bool.and_eq_true, decide_eq_true_eq] at hp
      refine ⟨fun j => ⟨?_, hval j (.inl hline)⟩, by simpa only [h5, h6] using hclass, hp.1, hp.2, by simpa only [hcap] using hz,
        by simpa only [totalCapacity, h1, h2, h3, h4] using htotal⟩
      by_cases e : j = i
      · subst e
        rw [lineValue_withLine_same]
        exact hcl.1
      · rw [lineValue_withLine_other _ _ e]
        exact (hline j).1
    · cases h

/-- The class and zone tables are changed where the line items and the capacities stay. -/
theorem keeps_tables (c : ConfigTables) (hl : ∀ i, lineValue c i = lineValue s.cfg i)
    (hcap : ∀ p, capacity { s with cfg := c } p = capacity s p) (htotal : totalCapacity c = totalCapacity s.cfg)
    (hclass : ∀ x : Stream, 10 ≤ dwellOf s.cfg x ∧ dwellOf s.cfg x ≤ 600 ∧ oilPm s.cfg (classOfStream x) ≤ 200 →
      10 ≤ dwellOf c x ∧ dwellOf c x ≤ 600 ∧ oilPm c (classOfStream x) ≤ 200) : Keeps s { s with cfg := c } := by
  refine keeps_cfg s c hcap (fun h => (hl .reevacMax).trans_le h) fun hc => ?_
  obtain ⟨hline, hx, h1, h2, hz, ht⟩ := hc
  refine ⟨fun i => by rw [hl]; exact hline i, fun x => hclass x (hx x), ?_, ?_, fun z => by rw [hcap]; exact hz z, htotal.trans_le ht⟩
  · exact (hl .holdDelay).trans_lt (h1.trans_eq (hl .holdEnd).symm)
  · exact (hl .completeMin).trans_lt (h2.trans_eq (hl .overMax).symm)

theorem keeps_writeDwell {t : State} {v w : Value} {c : Stream} (h : writeDwell s c v = .ok (t, w)) : Keeps s t := by
  unfold writeDwell at h
  split at h
  · cases h
  · rename_i k _
    cases h
    have hcl := clampNat_range (lo := 10) (hi := 600) (by decide) k
    cases c
    · refine keeps_tables s _ (fun i => by cases i <;> rfl) (fun p => by cases p <;> rfl) rfl fun x hx => ?_
      cases x
      · exact ⟨hcl.1, hcl.2, hx.2.2⟩
      · exact hx
    · refine keeps_tables s _ (fun i => by cases i <;> rfl) (fun p => by cases p <;> rfl) rfl fun x hx => ?_
      cases x
      · exact hx
      · exact ⟨hcl.1, hcl.2, hx.2.2⟩

theorem keeps_writeOil {t : State} {v w : Value} {c : Stream} (h : writeOil s c v = .ok (t, w)) : Keeps s t := by
  unfold writeOil at h
  split at h
  · cases h
  · rename_i k _
    cases h
    have hcl := clampNat_range (lo := 0) (hi := 200) (by decide) k
    cases c
    · refine keeps_tables s _ (fun i => by cases i <;> rfl) (fun p => by cases p <;> rfl) rfl fun x hx => ?_
      cases x
      · exact ⟨hx.1, hx.2.1, hcl.2⟩
      · exact hx
    · refine keeps_tables s _ (fun i => by cases i <;> rfl) (fun p => by cases p <;> rfl) rfl fun x hx => ?_
      cases x
      · exact hx
      · exact ⟨hx.1, hx.2.1, hcl.2⟩

/-! ### Writes of the zone table -/

/-- With no gate RELEASED no place is reserved. -/
theorem hasReserved_of_config (h : Standing s) (hl : s.line.state = .config) (p : Place) : hasReserved s p = false := by
  have hno : ∀ g : Gate, (s.zu.gates.get g).passing.isSome = false := fun g => by
    by_contra hg
    have := h.2.2.2.1 g ((h.2.1 g).2.mp (Bool.eq_true_of_not_eq_false hg))
    rw [hl] at this
    cases this
  cases p with
  | lane l => exact hno (.lane l)
  | chamber => exact hno .feed
  | _ => rfl

/-- Of the capacities only the one written changes. -/
theorem capacity_withCapacity (z : CapZone) (v : Nat) (p : Place) :
    capacity { s with cfg := withCapacity s.cfg z v } p = if p = capPlace z then v else capacity s p := by
  cases z with
  | lane l =>
    cases p with
    | lane m => cases l <;> cases m <;> rfl
    | _ => rfl
  | _ => cases p <;> rfl

theorem keeps_writeCapacity {t : State} {v w : Value} {z : CapZone} (h : writeCapacity s z v = .ok (t, w)) : Keeps s t := by
  unfold writeCapacity at h
  split at h
  · cases h
  · rename_i hl
    simp only [ne_eq, not_not] at hl
    split at h
    · cases h
    · rename_i k _
      dsimp only at h
      split at h
      · rename_i hk
        cases h
        obtain ⟨h1, h2, h3, h4⟩ := hk
        refine { Keeps.refl s with
          table := fun h => ⟨h.1, h.2.1, ?_, h.2.2.2⟩
          config := fun hc => ?_
          standing := fun h => ⟨h.1, h.2.1, ⟨h.2.2.1.1, fun p => ?_, h.2.2.1.2.2⟩, h.2.2.2⟩ }
        · cases z <;> exact h.2.2.1
        · obtain ⟨hline, hclass, hh, hm, hz, -⟩ := hc
          refine ⟨fun i => ?_, fun c => ?_, ?_, ?_, fun y => ?_, h3⟩
          · have := hline i
            cases z <;> cases i <;> exact this
          · have := hclass c
            cases z <;> cases c <;> exact this
          · cases z <;> exact hh
          · cases z <;> exact hm
          · rw [capacity_withCapacity]
            split
            · obtain rfl : y = z := by
                cases y <;> cases z <;> simp_all [capPlace]
              omega
            · exact hz y
        · rw [capacity_withCapacity]
          have hp := h.2.2.1.2.1 p
          have hr : (if hasReserved { s with cfg := withCapacity s.cfg z k.toNat } p = true then 1 else 0) = 0 := by
            rw [show hasReserved { s with cfg := withCapacity s.cfg z k.toNat } p = hasReserved s p from by cases p <;> rfl,
              hasReserved_of_config s h hl p]
            rfl
          rw [hr, show zoneList { s with cfg := withCapacity s.cfg z k.toNat } p = zoneList s p from by cases p <;> rfl]
          split
          · subst p
            exact h4
          · omega
      · cases h

theorem keeps_writeRating {t : State} {v w : Value} {l : Lane} (h : writeRating s l v = .ok (t, w)) : Keeps s t := by
  unfold writeRating at h
  split at h
  · cases h
  · split at h
    · cases h
      exact keeps_tables s _ (fun i => by cases i <;> rfl) (fun p => by cases p <;> rfl) rfl fun x hx => by cases x <;> exact hx
    · cases h

/-! ### Writes of the vessel and sensor tables -/

/-- A vessel item leaves the valve and the state. -/
theorem withVesselItem_keeps {x y : Vessel} {i : VesselItem} {v w : Value} (h : withVesselItem x i v = some (y, w)) :
    y.valve = x.valve ∧ y.state = x.state := by
  unfold withVesselItem at h
  split at h
  · cases h; exact ⟨rfl, rfl⟩
  · cases h; exact ⟨rfl, rfl⟩
  · cases h; exact ⟨rfl, rfl⟩
  · cases h; exact ⟨rfl, rfl⟩
  · split at h
    · cases h
    · obtain ⟨j, -, hj⟩ := Option.map_eq_some_iff.mp h
      cases hj; exact ⟨rfl, rfl⟩
  · cases h

theorem keeps_writeVessel {t : State} {v : VesselIx} {i : VesselItem} {a b : Value} (h : writeVessel s v i a = .ok (t, b)) :
    Keeps s t := by
  unfold writeVessel at h
  split at h
  · cases h
  · split at h
    · rename_i x _ hx
      cases h
      obtain ⟨hv, hs⟩ := withVesselItem_keeps hx
      exact (quiet_updVessel s v _ fun hf => by simpa only [ValveFits, hv, hs] using hf).keeps
    · cases h

/-- An identity item of a disabled entry leaves its readings and its mark. -/
theorem withIdentity_keeps {e e' : Sensor} {i : SensorItem} {v w : Value} (he : e.enabled = false)
    (h : withIdentity e i v = some (e', w)) : SameReading e e' := by
  have hoff : e.enabled = true → ∀ p : Prop, p := fun h => absurd h (by rw [he]; decide)
  unfold withIdentity at h
  split at h
  · split at h
    · cases h; exact ⟨rfl, rfl, rfl, fun _ => rfl⟩
    · cases h
  · cases h; exact ⟨rfl, rfl, rfl, fun h => hoff h _⟩
  · split at h
    · cases h; exact ⟨rfl, rfl, rfl, fun _ => rfl⟩
    · cases h
  · split at h
    · cases h; exact ⟨rfl, rfl, rfl, fun _ => rfl⟩
    · cases h
  · cases h; exact ⟨rfl, rfl, rfl, fun _ => rfl⟩
  · cases h

theorem withThreshold_keeps {e e' : Sensor} {i : SensorItem} {v w : Value} (h : withThreshold e i v = some (e', w)) :
    SameReading e e' := by
  unfold withThreshold at h
  split at h
  · simp only [Option.ite_none_right_eq_some, Option.some.injEq, Prod.mk.injEq] at h
    obtain ⟨-, rfl, -⟩ := h
    exact ⟨rfl, rfl, rfl, fun _ => rfl⟩
  · cases h

theorem keeps_writeSensor {t : State} {j : SensorIx} {i : SensorItem} {v w : Value} (h : writeSensor s j i v = .ok (t, w)) :
    Keeps s t := by
  unfold writeSensor at h
  split at h
  · split at h
    · cases h
      exact (steady_setEnabled s _ _).keeps
    · cases h
  · split at h
    · cases h
      exact (steady_updSensor s _ _ (withThreshold_keeps ‹_›)).keeps
    · cases h
  · split at h
    · cases h
      exact (steady_updSensor s _ _ (withThreshold_keeps ‹_›)).keeps
    · cases h
  · split at h
    · cases h
    · rename_i hen
      split at h
      · cases h
        exact (steady_updSensor s _ _ (withIdentity_keeps (by simpa using hen) ‹_›)).keeps
      · cases h

theorem keeps_writeItem {t : State} {i : ConfigItem} {v w : Value} (h : writeItem s i v = .ok (t, w)) : Keeps s t := by
  unfold writeItem at h
  split at h
  · exact keeps_writeLine s h
  · exact keeps_writeDwell s h
  · exact keeps_writeOil s h
  · exact keeps_writeCapacity s h
  · exact keeps_writeRating s h
  · split at h
    · exact keeps_writeVessel s h
    · cases h
  · split at h
    · exact keeps_writeSensor s h
    · cases h

/-! ### Writes of the staged recipe -/

/-- The staged recipe keeps a duty_min of at most 256. -/
theorem withRecipeItem_dutyMin {r r' : Recipe} {i : RecipeItem} {v w : Value} (h : withRecipeItem r i v = some (r', w))
    (hd : r.dutyMin ≤ 256) : r'.dutyMin ≤ 256 := by
  unfold withRecipeItem at h
  split at h
  · rename_i p k
    cases h
    cases p with
    | dutyMin =>
      show (clampInt 0 256 k).toNat ≤ 256
      unfold clampInt
      omega
    | _ => exact hd
  · obtain ⟨x, hx, hr⟩ := Option.map_eq_some_iff.mp h
    cases hr
    unfold withSensorName at hx
    split at hx
    · cases hx; exact hd
    · rename_i n _ _ _
      split at hx
      · cases hx
      · obtain ⟨y, -, rfl⟩ := Option.map_eq_some_iff.mp hx
        cases n <;> exact hd
    · cases hx
  · obtain ⟨x, -, hr⟩ := Option.map_eq_some_iff.mp h
    cases hr
    exact hd
  · cases h

end Sys2Proof.Machine
end

section
/-!
What the owners of the requests do keeps every invariant, and each answers in no more frames than its kind allows (R190).
-/

namespace Sys2Proof.Machine

/-- A body's outcome keeps every invariant and is answered in at most so many frames. -/
def Serves (frames : Nat) (s : State) (out : State × Reply) : Prop := Keeps s out.1 ∧ out.2.later.length + 1 ≤ frames

variable {s t : State}

theorem serves_refuse (s : State) (r : Reason) : Serves 1 s (refuse s r) := ⟨.refl s, le_rfl⟩

theorem serves_done (r : Result) (h : Keeps s t) : Serves 1 s (answerDone t r) := ⟨h, le_rfl⟩

variable (s)

/-! ### Stations: Join, Leave, Pulse -/

theorem quiet_startHeartbeat (n : Node) : Quiet s (startHeartbeat s n) := { Quiet.refl s with }

theorem quiet_rejoinEffects (n : Node) (e : StationEntry) : Quiet s (rejoinEffects s n e) := by
  unfold rejoinEffects
  split
  · exact .refl s
  · split
    · exact quiet_stationLoss s n 0
    · exact quiet_addHold s _ _ _ _

theorem keeps_takeJoin (n : Node) (f : Frame) (k : StationKind) : Keeps s (takeJoin n f k s) := by
  unfold takeJoin
  dsimp only
  have hq : Quiet s (rejoinEffects (startHeartbeat (updStation s n (joinedEntry s f k)) n) n s.stations[n]) :=
    .after (quiet_rejoinEffects _ _ _) (.after (quiet_startHeartbeat _ _) (quiet_updStation s n _ rfl))
  split
  · exact .after (keeps_routingAttempt _) hq.keeps
  · exact hq.keeps

theorem serves_join (n : Node) (f : Frame) : Serves 1 s (joinBody n f s) := by
  unfold joinBody
  split
  · exact serves_refuse s _
  · exact serves_refuse s _
  · exact serves_done _ (keeps_takeJoin s n f _)

theorem quiet_absent (n : Node) (h : s.stations[n].claim = none) : Quiet s (updStation s n absentEntry) :=
  quiet_updStation s n absentEntry (by rw [h]; rfl)

theorem serves_leave (n : Node) (f : Frame) : Serves 1 s (leaveBody n f s) := by
  unfold leaveBody
  split
  · exact serves_refuse s _
  · rename_i h
    exact serves_done _ (((quiet_setHeartbeat s n chStopped).trans (quiet_absent _ n (by simpa using h))).keeps)

theorem serves_pulse (n : Node) (f : Frame) : Serves 1 s (pulseBody n f s) := serves_done _ (.refl s)

/-! ### New records: Enrol, Reclaim, Adopt -/

/-- What the checks of R14 leave: a tag that is not reserved, and values in their ranges. -/
theorem checkCabinet_some {tag : Tag} {a b : Nat} {w : WeightCharge} {d : Option Nat} {c : NewCabinet}
    (h : checkCabinet tag a b w d = some c) :
    c.tag = tag ∧ reservedTag tag = false ∧ 1 ≤ c.foamWeight ∧ c.foamWeight ≤ 30
      ∧ (∀ x, c.declaredCharge = some x → 1 ≤ x ∧ x ≤ 2000) ∧ ∀ x, c.dwellOverride = some x → 10 ≤ x ∧ x ≤ 600 := by
  unfold checkCabinet at h
  split at h
  · cases h
  · rename_i hres
    split at h
    · cases h
    · rename_i hcharge
      split at h
      · cases h
        obtain ⟨h1, h2⟩ := clampNat_range (lo := 1) (hi := 30) (by decide) w.foamWeight
        refine ⟨rfl, by simpa using hres, h1, h2, fun x hx => ?_, fun x hx => ?_⟩
        · dsimp only at hx
          split at hx
          · cases hx
            simp_all
            omega
          · cases hx
        · obtain ⟨y, -, rfl⟩ := Option.map_eq_some_iff.mp hx
          exact clampNat_range (by decide) _
      · cases h

/-- A new record with other values than those a range bounds. -/
theorem newRecord_inRange {tag : Tag} {a b : Nat} {w : WeightCharge} {d : Option Nat} {c : NewCabinet}
    (h : checkCabinet tag a b w d = some c) (now : Clock) : RecordInRange (newRecord c now) := by
  obtain ⟨-, -, h1, h2, h3, h4⟩ := checkCabinet_some h
  have hnone : ∀ (P : Nat → Prop) (x : Nat), (none : Option Nat) = some x → P x := fun _ _ e => by cases e
  exact ⟨h1, h2, Nat.zero_le _, Nat.zero_le _, Nat.zero_le _, Nat.zero_le _, h3, h4, hnone _, hnone _⟩

theorem serves_enrol (who : Sender) (f : Frame) : Serves 1 s (enrolBody who f s) := by
  unfold enrolBody
  split
  · exact serves_refuse s _
  · split
    · exact serves_refuse s _
    · rename_i c hc
      obtain ⟨htag, hres, -⟩ := checkCabinet_some hc
      split
      · exact serves_refuse s _
      · rename_i hnew
        split
        · exact serves_refuse s _
        · rename_i hfree
          have hadd : Keeps s (addRecord s (newRecord c s.clock) .intake) :=
            keeps_addRecord (r := newRecord c s.clock) (by show reservedTag c.tag = false; rw [htag]; exact hres)
              (by show lookup s c.tag = none; simpa using hnew) (newRecord_inRange hc _) List.nodup_nil rfl
              (by simpa using hfree)
          dsimp only
          split
          · exact serves_done _ (hadd.trans (keeps_routingAttempt _))
          · exact serves_done _ hadd

theorem serves_look (who : Sender) (f : Frame) : Serves 2 s (lookBody who f s) := by
  unfold lookBody
  split
  · exact ⟨.refl s, Nat.one_le_ofNat⟩
  · exact ⟨.refl s, le_rfl⟩

theorem quiet_judgeCoverage (n : Node) (t : Tag) (c : Class) : Quiet s (judgeCoverage s n t c) := by
  unfold judgeCoverage
  split
  · exact .refl s
  · exact quiet_raiseHold s _ _ _ _

/-- The fields a Reclaim sets carry no range. -/
theorem reclaimedRecord_keeps (c : NewCabinet) (n : Node) (done : Bool) (now : Clock) :
    (reclaimedRecord c n done now).tag = c.tag ∧ (reclaimedRecord c n done now).station = some n
      ∧ (reclaimedRecord c n done now).holds = [] ∧ (RecordInRange (newRecord c now) → RecordInRange (reclaimedRecord c n done now)) := by
  unfold reclaimedRecord
  dsimp only
  split
  · exact ⟨rfl, rfl, rfl, id⟩
  · split
    · exact ⟨rfl, rfl, rfl, id⟩
    · exact ⟨rfl, rfl, rfl, id⟩

/-- A position without a claim has room. -/
theorem hasFreePlace_station {n : Node} (h : s.stations[n].claim = none) : hasFreePlace s (.station n) = true := by
  have hz : zoneList s (.station n) = [] := by
    show s.stations[n].claim.toList = []
    rw [h]
    rfl
  simp [hasFreePlace, hz, capacity, hasReserved, gateInto]

theorem serves_reclaimCreate (n : Node) (f : Frame) (hnew : lookup s f.fields.tag = none) : Serves 1 s (reclaimCreate n f s) := by
  unfold reclaimCreate
  split
  · exact serves_refuse s _
  · split
    · exact serves_refuse s _
    · rename_i c hc
      obtain ⟨htag, hres, -⟩ := checkCabinet_some hc
      split
      · exact serves_refuse s _
      · rename_i hclaim
        obtain ⟨h1, h2, h3, h4⟩ := reclaimedRecord_keeps c n f.fields.doneMark s.clock
        refine serves_done _ (.after (quiet_judgeCoverage _ _ _ _).keeps (keeps_addRecord (by rw [h1, htag]; exact hres) (by rw [h1, htag]; exact hnew)
          (h4 (newRecord_inRange hc _)) (by rw [HoldsOnce, h3]; exact List.nodup_nil) h2 (hasFreePlace_station s (by simpa using hclaim))))

/-! ### Holds that go -/

theorem keeps_lastHoldCleared (t : Tag) : Keeps s (lastHoldCleared s t) := by
  unfold lastHoldCleared
  split
  · exact .refl s
  · split
    · exact .refl s
    · split
      · exact keeps_routingAttempt s
      · split
        · exact keeps_selectionAttempt s
        · exact .refl s

theorem keeps_clearHold (t : Tag) (h : HoldReason) : Keeps s (clearHold s t h) :=
  (quiet_removeHold s t h).keeps.trans (keeps_lastHoldCleared _ t)

theorem serves_reclaim (n : Node) (f : Frame) : Serves 1 s (reclaimBody n f s) := by
  unfold reclaimBody
  split
  · exact serves_refuse s _
  · split
    · split
      · exact serves_reclaimCreate s n f ‹_›
      · exact serves_refuse s _
    · split
      · exact serves_refuse s _
      · dsimp only
        refine serves_done _ (.after (quiet_judgeCoverage _ _ _ _).keeps ?_)
        split
        · exact keeps_clearHold s _ _
        · exact .refl s

/-! ### Claim Next, Class Found, Release -/

theorem serves_claimNext (n : Node) (f : Frame) : Serves 1 s (claimNextBody n f s) := by
  unfold claimNextBody
  dsimp only
  split
  · exact serves_refuse s _
  · split
    · exact serves_refuse s _
    · rename_i hclaim
      split
      · exact serves_refuse s _
      · split
        · exact serves_refuse s _
        · exact serves_done _ (keeps_takeClaim (by simpa using hclaim) (claimable_mem ‹_›).1)

theorem keeps_takeFinding (n : Node) (t : Tag) (c : Class) : Keeps s (takeFinding s n t c) := by
  unfold takeFinding
  have hq : Quiet s (updRecord s t fun r => { r with cls := c }) := quiet_updRecord s t _ fun _ => ⟨rfl, rfl, id, id⟩
  generalize updRecord s t (fun r => { r with cls := c }) = u at hq
  dsimp only
  split
  · have hc : Keeps s (if tagCarries u t .classConflict = true then clearHold u t .classConflict else u) := by
      split
      · exact hq.keeps.trans (keeps_clearHold u t _)
      · exact hq.keeps
    generalize (if tagCarries u t .classConflict = true then clearHold u t .classConflict else u) = w at hc
    split
    · exact hc.trans (quiet_enterDone1Empty w t).keeps
    · exact hc
  · exact (hq.trans (quiet_raiseHold u t _ _ _)).keeps

theorem serves_classFound (n : Node) (f : Frame) : Serves 1 s (classFoundBody n f s) := by
  unfold classFoundBody
  dsimp only
  split
  · exact serves_refuse s _
  · split
    · exact serves_refuse s _
    · split
      · exact serves_refuse s _
      · split
        · exact serves_refuse s _
        · split
          · exact serves_refuse s _
          · split
            · exact serves_refuse s _
            · exact serves_done _ (keeps_takeFinding s n _ _)

theorem serves_release (n : Node) (f : Frame) : Serves 1 s (releaseBody n f s) := by
  unfold releaseBody
  dsimp only
  split
  · exact serves_refuse s _
  · split
    · exact serves_refuse s _
    · split
      · exact serves_refuse s _
      · rename_i howns
        split
        · exact serves_refuse s _
        · split
          · exact serves_refuse s _
          · split
            · exact serves_refuse s _
            · rename_i hfree
              have hclaim : s.stations[n].claim = some f.fields.tag := by simpa [ownsClaim] using howns
              exact serves_done _ (.after (keeps_selectionAttempt _) (keeps_toBuffer hclaim (by simpa using hfree)))

/-! ### Inlet Request, Re-evacuate, Pressure -/

theorem serves_queueInlet (n : Node) (t : Tag) (c : Stream) : Serves 1 s (queueInlet s n t c) :=
  ⟨(((quiet_setStage s t _).trans (quiet_joinQueue _ c _)).trans (quiet_grantAttempt _ c)).keeps, le_rfl⟩

theorem serves_inletRequest (n : Node) (f : Frame) : Serves 1 s (inletRequestBody n f s) := by
  unfold inletRequestBody
  dsimp only
  split
  · exact serves_refuse s _
  · split
    · exact serves_refuse s _
    · split
      · exact serves_refuse s _
      · split
        · exact serves_refuse s _
        · split
          · exact serves_refuse s _
          · split
            · exact serves_refuse s _
            · split
              · exact serves_refuse s _
              · exact serves_queueInlet s n _ _

/-- One more re-evacuation, below the limit (R99). -/
theorem keeps_reevacuation {t : Tag} {r : Record} (hr : lookup s t = some r) (hlt : r.reevacUsed < s.cfg.reevacMax) :
    Keeps s (updRecord s t fun r => { r with reevacUsed := r.reevacUsed + 1 }) := by
  refine Apart.keeps { Apart.refl s with } id (fun h => ?_) (standing_updRecord t _ fun _ => ⟨rfl, rfl, id⟩)
  refine h.of_map (g := fun r => if r.tag == t then { r with reevacUsed := r.reevacUsed + 1 } else r) rfl (fun x hx => ?_) id
  by_cases e : x.tag = t
  · subst e
    obtain rfl : x = r := Option.some.inj ((lookup_of_mem ((tagsDistinct_iff s).mp h.1).1 hx).symm.trans hr)
    rw [if_pos (beq_self_eq_true _)]
    refine ⟨rfl, id, ?_⟩
    rintro ⟨w1, w2, tr, rc, -, rest⟩
    have hmax := h.2.2.1
    exact ⟨w1, w2, tr, rc, by show x.reevacUsed + 1 ≤ 3; omega, rest⟩
  · rw [if_neg (by simpa using e)]
    exact ⟨rfl, id, id⟩

theorem serves_reEvacuate (n : Node) (f : Frame) : Serves 1 s (reEvacuateBody n f s) := by
  unfold reEvacuateBody
  dsimp only
  split
  · exact serves_refuse s _
  · split
    · exact serves_refuse s _
    · rename_i r hr
      split
      · exact serves_refuse s _
      · split
        · exact serves_refuse s _
        · split
          · exact serves_refuse s _
          · split
            · exact serves_refuse s _
            · split
              · exact serves_refuse s _
              · split
                · exact serves_refuse s _
                · rename_i hmax
                  split
                  · exact serves_refuse s _
                  · obtain ⟨hk, hl⟩ := serves_queueInlet (clearHold (updRecord s f.fields.tag fun r =>
                      { r with reevacUsed := r.reevacUsed + 1 }) f.fields.tag .leak) n f.fields.tag ‹Stream›
                    exact ⟨.after hk (.after (keeps_clearHold _ _ _) (keeps_reevacuation s hr (by omega))), hl⟩

theorem serves_pressure (n : Node) (f : Frame) : Serves 1 s (pressureBody n f s) := by
  unfold pressureBody
  split
  · exact serves_refuse s _
  · split
    · exact serves_refuse s _
    · exact serves_done _ (quiet_takeReport s n _).keeps

end Sys2Proof.Machine
end

section
/-!
The supervisor's requests, the line's resets and the remaining events keep every invariant; then every command does.
-/

namespace Sys2Proof.Machine

variable (s : State) {t : State}

/-! ### Writes and the recipe -/

theorem serves_configWrite (f : Frame) : Serves 1 s (configWriteBody f s) := by
  unfold configWriteBody
  split
  · split
    · exact serves_done _ (keeps_writeItem s ‹_›)
    · exact serves_refuse s _
  · exact serves_refuse s _

/-- A change of the staged recipe and its mark that keeps duty_min in range. -/
theorem steady_stagedRecipe (r : Recipe) (m : Bool) (h : s.cs.staged.dutyMin ≤ 256 → r.dutyMin ≤ 256) :
    Steady s { s with cs.staged := r, cs.commitMark := m } where
  toCalm := { Calm.refl s with }
  sensors := id
  drive := id
  duty hd := ⟨hd.1, h hd.2.1, hd.2.2⟩

theorem serves_recipeWrite (f : Frame) : Serves 1 s (recipeWriteBody f s) := by
  unfold recipeWriteBody
  split
  · rename_i r v h
    obtain ⟨i, -, hi⟩ := Option.bind_eq_some_iff.mp h
    exact serves_done _ (steady_stagedRecipe s r false (withRecipeItem_dutyMin hi)).keeps
  · exact serves_refuse s _

theorem serves_recipeCommit (f : Frame) : Serves 1 s (recipeCommitBody f s) := by
  unfold recipeCommitBody
  split
  · exact serves_done _ (Quiet.keeps { Quiet.refl s with })
  · exact ⟨Quiet.keeps { Quiet.refl s with }, le_rfl⟩

/-! ### Reports -/

theorem serves_configRead (f : Frame) : Serves 1 s (configReadBody f s) := by
  unfold configReadBody
  split
  · exact serves_refuse s _
  · exact serves_done _ (.refl s)

theorem serves_recordRead (f : Frame) : Serves 5 s (recordReadBody f s) := by
  unfold recordReadBody
  split
  · exact ⟨.refl s, Nat.one_le_ofNat⟩
  · exact ⟨.refl s, le_rfl⟩

theorem serves_zoneRead (f : Frame) : Serves 3 s (zoneReadBody f s) := by
  unfold zoneReadBody
  split
  · exact ⟨.refl s, Nat.one_le_ofNat⟩
  · split
    · exact ⟨.refl s, Nat.one_le_ofNat⟩
    · exact ⟨.refl s, le_rfl⟩

theorem serves_stationStatus (f : Frame) : Serves 3 s (stationStatusBody f s) := by
  unfold stationStatusBody
  split
  · exact ⟨.refl s, Nat.one_le_ofNat⟩
  · exact ⟨(quiet_updStation s _ (fun e => { e with lostLatch := false }) rfl).keeps, le_rfl⟩

theorem serves_vesselStatus (f : Frame) : Serves 3 s (vesselStatusBody f s) := by
  unfold vesselStatusBody
  split
  · exact ⟨.refl s, Nat.one_le_ofNat⟩
  · exact ⟨.refl s, le_rfl⟩

theorem serves_sensorStatus (f : Frame) : Serves 3 s (sensorStatusBody f s) := by
  unfold sensorStatusBody
  split
  · exact ⟨.refl s, Nat.one_le_ofNat⟩
  · exact ⟨(steady_updSensor s _ (fun e => { e with faultLatch := false }) ⟨rfl, rfl, rfl, fun _ => rfl⟩).keeps, le_rfl⟩

theorem serves_chamberStatus (f : Frame) : Serves 4 s (chamberStatusBody f s) := ⟨.refl s, le_rfl⟩

/-! ### Hold and Clear Hold -/

theorem serves_hold (f : Frame) : Serves 1 s (holdBody f s) := by
  unfold holdBody
  dsimp only
  split
  · exact serves_refuse s _
  · split
    · exact serves_refuse s _
    · exact serves_done _ (quiet_raiseHold s _ _ _ _).keeps

/-- A record at a station position is that station's claim. -/
theorem claim_of_atStation {n : Node} {t : Tag} (h : atStation s t = some n) : s.stations[n].claim = some t := by
  unfold atStation at h
  split at h
  · rename_i m hm
    obtain rfl := Option.some.inj h
    exact mem_zoneList_station.mp (mem_of_placeOf hm)
  · cases h

/-- Where a Clear Hold of STATION_LOST is not refused, the lane of a position has room. -/
theorem lane_free_of_not_refused {n : Node} {l : Lane} {t : Tag} (h : stationLostRefusal s t = none) (ha : atStation s t = some n)
    (hl : s.stations[n].lane = some l) : hasFreePlace s (.lane l) = true := by
  unfold stationLostRefusal at h
  rw [ha] at h
  dsimp only at h
  rw [hl] at h
  split_ifs at h with h1 h2 h3
  simpa using h3

theorem keeps_clearStationLost {t : Tag} (h : stationLostRefusal s t = none) : Keeps s (clearStationLost s t) := by
  unfold clearStationLost
  split
  · rename_i n l hb
    obtain ⟨m, hm, hl⟩ := Option.bind_eq_some_iff.mp hb
    obtain ⟨x, hx, he⟩ := Option.map_eq_some_iff.mp hl
    cases he
    have hfree := lane_free_of_not_refused s h hm hx
    exact .after (keeps_lastHoldCleared _ t) (.after (keeps_returnClaim (s := removeHold s t .stationLost) (claim_of_atStation s hm) hfree)
      (quiet_removeHold s t _).keeps)
  · exact keeps_clearHold s t _

theorem keeps_clearReason {t : Tag} {h : HoldReason} (hr : h = .stationLost → stationLostRefusal s t = none) :
    Keeps s (clearReason s t h) := by
  unfold clearReason
  split
  · exact keeps_clearStationLost s (hr rfl)
  · exact .after (quiet_acceptLeak _ t).keeps (keeps_clearHold s t _)
  · exact keeps_clearHold s t _

theorem serves_clearHold (f : Frame) : Serves 1 s (clearHoldBody f s) := by
  unfold clearHoldBody
  dsimp only
  split
  · exact serves_refuse s _
  · split
    · exact serves_refuse s _
    · rename_i h _ r hr
      split
      · exact serves_refuse s _
      · split
        · exact serves_refuse s _
        · rename_i hno
          split
          · exact serves_done _ (.refl s)
          · rename_i e he
            refine serves_done _ (keeps_clearReason s fun hs => ?_)
            subst hs
            have hc : carries r .stationLost = true :=
              List.any_eq_true.mpr ⟨e, List.mem_of_find?_eq_some he, List.find?_some (p := fun x : HoldEntry => x.reason == HoldReason.stationLost) he⟩
            rw [reasonRefusal, if_pos hc, (lookup_some hr).2.1] at hno
            exact hno

/-! ### Dispose, Retire, Override -/

theorem serves_dispose (f : Frame) : Serves 1 s (disposeBody f s) := by
  unfold disposeBody
  dsimp only
  split
  · exact serves_refuse s _
  · rename_i r hr
    split
    · exact serves_refuse s _
    · rename_i hno
      refine serves_done _ ?_
      have htag := (lookup_some hr).2.1
      unfold disposeRefusal at hno
      rw [htag] at hno
      dsimp only at hno
      split at hno
      · cases hno
      · rename_i hplace
        split at hno
        · cases hno
        · rename_i hpass
          split at hno
          · cases hno
          · split at hno
            · cases hno
            · rename_i hroom
              have hmove : Keeps s (disposedFrom s (placeOf s f.fields.tag) f.fields.tag) :=
                keeps_disposedFrom hr (by simpa using hpass) (by simpa using hroom) (by simpa using hplace)
              have heq : disposeRecord s f.fields.tag
                  = match placeOf s f.fields.tag with
                    | some .intake => if s.zu.intake.head? == some f.fields.tag then
                        routingAttempt (disposedFrom s (placeOf s f.fields.tag) f.fields.tag)
                      else disposedFrom s (placeOf s f.fields.tag) f.fields.tag
                    | some (.lane _) => routingAttempt (disposedFrom s (placeOf s f.fields.tag) f.fields.tag)
                    | some .buffer => selectionAttempt (disposedFrom s (placeOf s f.fields.tag) f.fields.tag)
                    | _ => disposedFrom s (placeOf s f.fields.tag) f.fields.tag := rfl
              rw [heq]
              generalize disposedFrom s (placeOf s f.fields.tag) f.fields.tag = u at hmove
              split
              · split
                · exact hmove.trans (keeps_routingAttempt u)
                · exact hmove
              · exact hmove.trans (keeps_routingAttempt u)
              · exact hmove.trans (keeps_selectionAttempt u)
              · exact hmove

theorem serves_retire (f : Frame) : Serves 1 s (retireBody f s) := by
  unfold retireBody
  dsimp only
  split
  · exact serves_refuse s _
  · split
    · rename_i hp
      exact serves_done _ (keeps_retireExit (mem_of_placeOf hp))
    · exact serves_refuse s _

theorem serves_override (f : Frame) : Serves 1 s (overrideBody f s) := by
  unfold overrideBody
  dsimp only
  split
  · exact serves_refuse s _
  · split
    · exact serves_refuse s _
    · refine serves_done _ (quiet_updRecord s _ _ fun r => ?_).keeps
      refine .of_fields rfl rfl id rfl id id rfl id rfl (fun _ d hd => ?_) rfl id
      simp only [overrideOf, Option.ite_none_left_eq_some] at hd
      obtain ⟨-, hd⟩ := hd
      obtain rfl := Option.some.inj hd
      exact clampNat_range (by decide) _

/-! ### Vessels, stations, gates, chamber -/

theorem serves_vesselOnline (f : Frame) : Serves 1 s (vesselOnlineBody f s) := by
  unfold vesselOnlineBody
  dsimp only
  split
  · exact serves_refuse s _
  · rename_i v _
    split
    · exact serves_refuse s _
    · rename_i hno
      have hoff : s.vu.vessels[v].state = .offline := by
        by_contra h
        rw [onlineRefusal, if_pos h] at hno
        cases hno
      exact serves_done _ ((quiet_updVessel_closed s v (onlineVessel f.fields.tare) (by rw [hoff]; decide)
        fun x => ⟨rfl, by simp [onlineVessel]⟩).trans (quiet_grantAttempt _ _)).keeps

theorem serves_vesselOffline (f : Frame) : Serves 1 s (vesselOfflineBody f s) := by
  unfold vesselOfflineBody
  split
  · exact serves_refuse s _
  · rename_i v _
    have hclose : s.vu.vessels[v].state ≠ .filling →
        Serves 1 s (answerDone (updVessel s v fun x => { x with state := .offline, netG := none, faultCause := none }) .empty) :=
      fun h => serves_done _ (quiet_updVessel_closed s v (fun x => { x with state := .offline, netG := none, faultCause := none }) h
        fun x => ⟨rfl, by simp⟩).keeps
    split
    · exact serves_done _ (.refl s)
    · rename_i h; exact hclose (by rw [h]; decide)
    · rename_i h; exact hclose (by rw [h]; decide)
    · rename_i h; exact hclose (by rw [h]; decide)
    · exact serves_refuse s _

theorem quiet_barNode (n : Node) : Quiet s (barNode s n) := by
  unfold barNode
  split
  · exact .refl s
  · exact quiet_updStation s n _ rfl
  · exact .after (quiet_stationLoss _ n _) (.after (quiet_updStation _ n (fun e => { e with state := .barred }) rfl) (quiet_setHeartbeat s n _))
  · exact .after (quiet_stationLoss _ n _) (quiet_updStation s n (fun e => { e with state := .barred }) rfl)

theorem serves_bar (f : Frame) : Serves 1 s (barBody f s) := by
  unfold barBody
  split
  · exact serves_refuse s _
  · exact serves_done _ (quiet_barNode s _).keeps

theorem unbarredEntry_claim (e : StationEntry) : (unbarredEntry e).claim = e.claim := by
  unfold unbarredEntry
  split
  · rfl
  · rename_i h
    have : e.claim = none := by simpa using h
    rw [this]
    rfl

theorem serves_unbar (f : Frame) : Serves 1 s (unbarBody f s) := by
  unfold unbarBody
  split
  · exact serves_refuse s _
  · split
    · exact serves_refuse s _
    · exact serves_done _ (quiet_updStation s _ unbarredEntry (unbarredEntry_claim _)).keeps

theorem serves_gateClear (f : Frame) : Serves 1 s (gateClearBody f s) := by
  unfold gateClearBody
  split
  · exact serves_refuse s _
  · rename_i g _
    split
    · exact serves_done _ (.refl s)
    · exact serves_refuse s _
    · refine serves_done _ ?_
      have hg : Keeps s (setGate s g .initial) := keeps_setGate_closed g .initial (by decide) rfl rfl
      unfold unblockGate
      dsimp only
      split
      · exact hg.trans (keeps_routingAttempt _)
      · exact hg.trans (keeps_selectionAttempt _)

theorem serves_chamberRestart (f : Frame) : Serves 1 s (chamberRestartBody f s) := by
  unfold chamberRestartBody
  split
  · exact serves_refuse s _
  · split
    · exact serves_refuse s _
    · split
      · exact serves_refuse s _
      · exact serves_done _ (steady_restartChamber s).keeps

theorem serves_chamberClear (f : Frame) : Serves 1 s (chamberClearBody f s) := by
  unfold chamberClearBody
  split
  · exact serves_refuse s _
  · split
    · exact serves_refuse s _
    · exact serves_done _ (steady_clearChamber s).keeps

/-! ### The line state -/

theorem serves_lineStart (f : Frame) : Serves 1 s (lineStartBody f s) := by
  unfold lineStartBody
  split
  · exact serves_refuse s _
  · rename_i h
    have hc : s.line.state = .config := by
      by_contra hc
      exact h (.inl hc)
    refine serves_done _ (Keeps.after (keeps_setLine { s with tu.reconcile := chStart (s.clock + sec s.cfg.reconcileWindow) } _
      fun hs g hg => ?_) (Quiet.keeps { Quiet.refl s with }))
    have hrun := hs.2.2.2.1 g hg
    rw [show _ = s.line.state from rfl, hc] at hrun
    cases hrun

theorem serves_lineOpen (f : Frame) : Serves 1 s (lineOpenBody f s) := by
  unfold lineOpenBody
  split
  · exact serves_refuse s _
  · exact serves_done _ (.after (keeps_enterRun _) (Quiet.keeps { Quiet.refl s with }))

theorem serves_lineResume (f : Frame) : Serves 1 s (lineResumeBody f s) := by
  unfold lineResumeBody
  split
  · exact serves_refuse s _
  · exact serves_done _ (keeps_enterRun s)

/-! ### Adopt -/

theorem adoptedRecord_station (c : NewCabinet) (st : Stage) (p : Place) (now : Clock) :
    (adoptedRecord c st p now).station = stationOf p := by
  cases p <;> rfl

/-- An Adopt that is not refused names a new tag and a place with room. -/
theorem adoptRefusal_none {c : NewCabinet} {p : Place} (h : adoptRefusal s c p = none) :
    lookup s c.tag = none ∧ hasFreePlace s p = true := by
  unfold adoptRefusal at h
  split_ifs at h with h1 h2 h3 h4
  exact ⟨by simpa using h1, by simpa using h4⟩

theorem serves_adopt (f : Frame) : Serves 1 s (adoptBody f s) := by
  unfold adoptBody
  split
  · exact serves_refuse s _
  · split
    · rename_i c st hc _
      obtain ⟨htag, hres, -⟩ := checkCabinet_some hc
      split
      · exact serves_refuse s _
      · rename_i p _
        split
        · exact serves_refuse s _
        · rename_i hno
          obtain ⟨hnew, hfree⟩ := adoptRefusal_none s hno
          have hadd : Keeps s (addRecord s (adoptedRecord c st p s.clock) p) :=
            keeps_addRecord (r := adoptedRecord c st p s.clock) (by show reservedTag c.tag = false; rw [htag]; exact hres)
              hnew (newRecord_inRange hc s.clock) List.nodup_nil (adoptedRecord_station c st p _) hfree
          refine serves_done _ ?_
          unfold takeAdopt
          dsimp only
          split
          · exact hadd.trans (quiet_judgeCoverage _ _ _ _).keeps
          · exact hadd
    · exact serves_refuse s _

/-! ### Power-on and Line Reset -/

/-- An empty line stands. -/
theorem standing_empty (hr : t.records = []) (hz : ∀ p, zoneList t p = []) (hg : ∀ g, t.zu.gates.get g = .initial)
    (hb : t.cs.batchList = []) : Standing t := by
  have hnil : ∀ r, r ∉ t.records := fun r h => by rw [hr] at h; cases h
  have hidle : ∀ g, (t.zu.gates.get g).state ≠ .released := fun g h => by rw [hg] at h; cases h
  have hempty : ∀ g x, (t.zu.gates.get g).passing ≠ some x := fun g x h => by rw [hg] at h; cases h
  refine ⟨⟨by rw [hr]; exact List.nodup_nil, fun r h => absurd h (hnil r)⟩, fun g => by rw [hg]; decide,
    ⟨?_, fun p => ?_, fun r h => absurd h (hnil r)⟩, fun g h => absurd h (hidle g), fun l m h => absurd h (hidle _),
    fun l x h => absurd h (hempty _ x), fun x h => absurd h (hempty .feed x), fun x h => by rw [hb] at h; cases h⟩
  · rw [hr, tagsInZones_eq, List.flatMap_eq_nil_iff.mpr fun p _ => hz p]
    exact .refl _
  · have hres : hasReserved t p = false := by
      unfold hasReserved
      split
      · rw [hg]; rfl
      · rfl
    rw [hz, hres]
    exact Nat.zero_le _

end Sys2Proof.Machine
end

section
/-!
Power-on, Line Reset, inputs, timers and the line port; then every command keeps every invariant, which settles the invariants of the
model.
-/

namespace Sys2Proof.Machine

variable (s : State) {t : State}

/-! ### Power-on and Line Reset -/

theorem getElem_replicate_fin {α : Type} {n : Nat} (a : α) (i : Fin n) : (Vector.replicate n a)[i] = a := by simp

/-- Every vessel after power-on is OFFLINE with its valve off. -/
theorem powerOn_vessel (lv : InputLevels) (v : VesselIx) : ∃ c i, (State.powerOn lv).vu.vessels[v] = .initial c i := by
  revert v
  exact fun
    | 0 => ⟨_, _, rfl⟩
    | 1 => ⟨_, _, rfl⟩
    | 2 => ⟨_, _, rfl⟩
    | 3 => ⟨_, _, rfl⟩

theorem valves_powerOn (lv : InputLevels) : ValvesFollowState (State.powerOn lv) := by
  intro v
  obtain ⟨c, i, h⟩ := powerOn_vessel lv v
  rw [h]
  show false = true ↔ VesselState.offline = .filling
  decide

theorem drive_powerOn (lv : InputLevels) : DriveInterlocked (State.powerOn lv) := by
  refine ⟨⟨fun i _ => ?_, fun p e => by cases e⟩, fun e => by cases e⟩
  show (Vector.replicate 16 Sensor.initial)[i].latest = none
  rw [getElem_replicate_fin]
  rfl

theorem duty_powerOn (lv : InputLevels) : DutyInRange (State.powerOn lv) :=
  have h : Recipe.initial.dutyMin ≤ 256 := by decide
  ⟨h, h, Nat.zero_le _, Nat.zero_le _, fun e => by cases e⟩

theorem config_powerOn (lv : InputLevels) : ConfigInRange (State.powerOn lv) := by
  have h : (∀ i : LineItem, (lineRange i).1 ≤ lineValue .initial i ∧ lineValue .initial i ≤ (lineRange i).2)
      ∧ (∀ c : Stream, 10 ≤ dwellOf .initial c ∧ dwellOf .initial c ≤ 600 ∧ oilPm .initial (classOfStream c) ≤ 200) :=
    ⟨fun i => by cases i <;> decide, fun c => by cases c <;> decide⟩
  have hz : ∀ z : CapZone, 1 ≤ capacity (State.powerOn lv) (capPlace z) ∧ capacity (State.powerOn lv) (capPlace z) ≤ capLimit z := by
    intro z
    have hlane : ∀ l : Lane, ConfigTables.initial.capLanes.get l = 6 := fun l => by cases l <;> rfl
    cases z with
    | lane l =>
      show 1 ≤ ConfigTables.initial.capLanes.get l ∧ ConfigTables.initial.capLanes.get l ≤ 12
      rw [hlane]
      decide
    | intake => exact (by decide : 1 ≤ 8 ∧ 8 ≤ 16)
    | buffer => exact (by decide : 1 ≤ 12 ∧ 12 ≤ 24)
    | exit => exact (by decide : 1 ≤ 8 ∧ 8 ≤ 16)
  exact ⟨h.1, h.2, (by decide : 5 < 30), (by decide : 850 < 1150), hz, (by decide : totalCapacity .initial ≤ 64)⟩

theorem standing_powerOn (lv : InputLevels) : Standing (State.powerOn lv) := by
  refine standing_empty rfl (fun p => ?_) (fun g => ?_) rfl
  · cases p with
    | station n =>
      show ((Vector.replicate 12 StationEntry.initial)[n]).claim.toList = []
      rw [getElem_replicate_fin]
      rfl
    | lane l => cases l <;> rfl
    | _ => rfl
  · cases g with
    | lane l => cases l <;> rfl
    | feed => rfl

theorem table_powerOn (lv : InputLevels) : TableSound (State.powerOn lv) :=
  have hc : ConfigTables.initial.reevacMax ≤ 3 := by decide
  ⟨(standing_powerOn lv).1, (fun _ h => by cases h), hc, Nat.zero_le _, fun e => absurd rfl e⟩

theorem keeps_powerOn (lv : InputLevels) (p : List Instr) : Keeps s { State.powerOn lv with pending := p } where
  requests := Nat.zero_le _
  answers := Nat.zero_le _
  notices _ := Nat.zero_le _
  valves _ := valves_powerOn lv
  gates _ := (standing_powerOn lv).2.1
  drive _ := drive_powerOn lv
  duty _ := duty_powerOn lv
  table _ := table_powerOn lv
  config _ := config_powerOn lv
  standing _ := standing_powerOn lv

/-- The state after Line Reset, but for SN's share (R208). -/
def lineCleared (s : State) : State :=
  { s with
    line := { s.line with state := .config, windowExpired := false }
    lp := portReset s.lp
    records := []
    zu := ⟨[], .all [], [], [], [], .all .initial⟩
    stations := Vector.replicate 12 .initial
    progress := Vector.replicate 12 .initial
    vu := ⟨s.vu.vessels.map vesselReset, [], []⟩
    tu := timersReset s.tu
    cs := chamberReset s.cs (Config.freeLevel s.freeCount)
    freeCount := s.freeCount + 1 }

theorem lineReset_eq : lineReset s = sensorsReset (lineCleared s) := rfl

theorem keeps_lineCleared (hsn : DriveInterlocked s → SensorsAgree (lineCleared s)) : Keeps s (lineCleared s) := by
  have hgate : ∀ g, (lineCleared s).zu.gates.get g = .initial := by
    intro g
    cases g with
    | lane l => cases l <;> rfl
    | feed => rfl
  have hzone : ∀ p, zoneList (lineCleared s) p = [] := by
    intro p
    cases p with
    | station n =>
      show ((Vector.replicate 12 StationEntry.initial)[n]).claim.toList = []
      rw [getElem_replicate_fin]
      rfl
    | lane l => cases l <;> rfl
    | _ => rfl
  have hstand := standing_empty (t := lineCleared s) rfl hzone hgate rfl
  exact {
    requests := Nat.zero_le _
    answers := Nat.zero_le _
    notices := fun _ => Nat.zero_le _
    valves := fun _ v => by
      show (s.vu.vessels.map vesselReset)[v].valve = true ↔ (s.vu.vessels.map vesselReset)[v].state = .filling
      simp [vesselReset]
    gates := fun _ => hstand.2.1
    drive := fun h => ⟨hsn h, fun e => by cases e⟩
    duty := fun h => ⟨h.1, h.2.1, Nat.zero_le _, Nat.zero_le _, fun e => by cases e⟩
    table := fun h => ⟨hstand.1, (fun _ h => by cases h), h.2.2.1, h.2.2.2.1, fun e => absurd rfl e⟩
    config := .congr (s := s) rfl
    standing := fun _ => hstand }

/-- SN starts again with every reading gone (R139, R142). -/
theorem steady_sensorsReset (hd : s.cs.outputs.shredDrive = false) : Steady s (sensorsReset s) := by
  let u : State := { s with
    sn.sensors := s.sn.sensors.map fun e => { clearReadings e with faultLatch := false }
    sn.lastPolled := 15, sn.inFlight := none, sn.requests := [], sn.immediate := [], sn.sent := [] }
  obtain ⟨sn, h, -⟩ := beginSlot_frame u u.clock
  have hn : ∀ i : SensorIx, u.sn.sensors[i].enabled = false → u.sn.sensors[i].latest = none := by
    intro i _
    show (s.sn.sensors.map fun e => { clearReadings e with faultLatch := false })[i].latest = none
    simp [clearReadings]
  have ha := sensorsAgree_beginSlot u u.clock hn (.inr rfl)
  have heq : sensorsReset s = beginSlot u u.clock := rfl
  rw [heq]
  refine { Steady.refl s with
    toCalm := by rw [h]; exact { Calm.refl s with }
    sensors := fun _ => ha
    drive := fun _ => ⟨ha, fun e => ?_⟩
    duty := by rw [h]; exact id }
  have hoff : (beginSlot u u.clock).cs.outputs.shredDrive = false := by rw [h]; exact hd
  rw [hoff] at e
  cases e

theorem keeps_lineReset : Keeps s (lineReset s) := by
  rw [lineReset_eq]
  exact (keeps_lineCleared s fun h => h.1).trans (steady_sensorsReset _ rfl).keeps

theorem serves_lineReset (f : Frame) : Serves 1 s (lineResetBody f s) := serves_done _ (keeps_lineReset s)

/-! ### Inputs -/

/-- A filter whose filtered level stays. -/
theorem quiet_setInput (i : Input) (x : InputFilter) (h : x.filtered = (getInput s i).filtered) : Quiet s (setInput s i x) := by
  cases i with
  | barrier g => exact { Quiet.refl s with }
  | door => exact { Quiet.refl s with door := h }
  | estop => exact { Quiet.refl s with }

theorem rawChanged_filtered (x : InputFilter) (l : Bool) (now : Clock) (k : Nat) : (rawChanged x l now k).filtered = x.filtered := by
  unfold rawChanged
  split
  · rfl
  · rfl

theorem quiet_barrierChanged (g : Gate) (b : Bool) (c : Clock) : Quiet s (barrierChanged s g b c) := by
  unfold barrierChanged
  dsimp only
  split
  · exact { Quiet.refl s with }
  · exact { Quiet.refl s with }

/-- The door has changed: the drive is judged at the new level. -/
theorem steady_doorAccepted (x : InputFilter) : Steady s (chamberDoor { s with tu.door := x }) := by
  have h := steady_chamberDoor { s with tu.door := x }
  have ha : SensorsAgree s → SensorsAgree { s with tu.door := x } := id
  exact {
    toCalm := Calm.trans (t := { s with tu.door := x }) { Calm.refl s with } h.toCalm
    sensors := h.sensors ∘ ha
    drive := fun hd => ⟨h.sensors hd.1, driveSafe_judgeDrive _⟩
    duty := fun hd => h.duty hd }

theorem keeps_inputAccepted (i : Input) (x : InputFilter) (c : Clock) : Keeps s (deliverChange (setInput s i x) i c) := by
  cases i with
  | barrier g => exact (Quiet.after (t := setInput s (.barrier g) x) (quiet_barrierChanged _ g _ c) { Quiet.refl s with }).keeps
  | door => exact (steady_doorAccepted s x).keeps
  | estop => exact .after (t := setInput s .estop x) (keeps_estopChanged _) (Quiet.keeps { Quiet.refl s with })

/-! ### Timers -/

theorem quiet_heartbeatExpired (n : Node) : Quiet s (heartbeatExpired s n) := by
  unfold heartbeatExpired
  dsimp only
  split
  · exact .after (quiet_stationLoss _ n 0) (.after (quiet_toSupervisor _ _)
      (quiet_updStation s n (fun x => { x with state := .lost, lostLatch := true }) rfl))
  · exact .refl s

theorem quiet_nextPeriod : Quiet s (nextPeriod s) := by
  unfold nextPeriod
  split
  · dsimp only
    split
    · exact { Quiet.refl s with applied := fun h _ => h }
    · exact .refl s
  · exact .refl s

theorem quiet_endActiveTime : Quiet s (endActiveTime s) := by
  unfold endActiveTime
  split
  · split
    · exact { Quiet.refl s with }
    · exact .refl s
  · exact .refl s

theorem quiet_tick : Quiet s (tick s) := { Quiet.refl s with }

/-! ### The line port -/

/-- A change of LP alone that takes entries from its queues. -/
theorem keeps_port (p : LinePort) (hr : p.requests.length ≤ s.lp.requests.length) (ha : p.answers.length ≤ s.lp.answers.length)
    (hn : p.notices.length ≤ s.lp.notices.length) : Keeps s { s with lp := p } :=
  { Keeps.refl s with requests := hr, answers := ha, notices := hn.trans }

theorem noticeSent_queues (p : LinePort) :
    (noticeSent p).requests = p.requests ∧ (noticeSent p).answers = p.answers ∧ (noticeSent p).notices.length ≤ p.notices.length := by
  unfold noticeSent
  split
  · rename_i h
    split
    · refine ⟨rfl, rfl, ?_⟩
      rw [h]
      exact Nat.le_succ _
    · exact ⟨rfl, rfl, le_rfl⟩
  · exact ⟨rfl, rfl, le_rfl⟩

theorem keeps_endTransmission : Keeps s (endTransmission s) := by
  unfold endTransmission
  split
  · exact .refl s
  · dsimp only
    split
    · exact keeps_port s _ le_rfl (by simp) le_rfl
    · obtain ⟨h1, h2, h3⟩ := noticeSent_queues { s.lp with sending := none, errorCount := s.lp.errorCount - 1 }
      exact keeps_port s _ (by rw [h1]) (by rw [h2]) h3
    · exact keeps_port s _ le_rfl le_rfl le_rfl

theorem keeps_failTransmission (how : TransmitFailure) : Keeps s (failTransmission s how) := by
  unfold failTransmission
  split
  · exact .refl s
  · split
    · exact keeps_port s _ le_rfl le_rfl le_rfl
    · exact keeps_port s _ le_rfl le_rfl le_rfl

theorem keeps_recoverBus : Keeps s (recoverBus s) := by
  unfold recoverBus
  split
  · exact keeps_port s _ le_rfl le_rfl le_rfl
  · exact .refl s

theorem keeps_startTransmission : Keeps s (startTransmission s) := by
  unfold startTransmission
  split
  · exact keeps_port s _ le_rfl le_rfl le_rfl
  · exact .refl s

/-! ### Every command -/

/-- Every invariant of s holds in t. -/
structure KeepsAll (s t : State) : Prop where
  queues : QueuesBounded s → QueuesBounded t
  valves : ValvesFollowState s → ValvesFollowState t
  gates : GatesAgree s → GatesAgree t
  drive : DriveInterlocked s → DriveInterlocked t
  duty : DutyInRange s → DutyInRange t
  table : TableSound s → TableSound t
  config : ConfigInRange s → ConfigInRange t
  standing : Standing s → Standing t

variable {s}

/-- An event that keeps the invariants, with LP's queues filled again within their depth. -/
theorem Keeps.filled (h : Keeps s t) (p : LinePort)
    (hq : QueuesBounded s → p.requests.length ≤ 16 ∧ p.answers.length ≤ 16 ∧ p.notices.length ≤ 16) : KeepsAll s { t with lp := p } :=
  ⟨hq, h.valves, h.gates, h.drive, h.duty, h.table, h.config, h.standing⟩

theorem Keeps.all (h : Keeps s t) : KeepsAll s t :=
  h.filled t.lp fun hq => ⟨h.requests.trans hq.1, h.answers.trans hq.2.1, h.notices hq.2.2⟩

/-- A request that is taken has room for its answer, so that LP's queues stay within their depth (R190). -/
theorem keepsAll_request {k : ReqKind} {b : Body} (hb : ∀ who f s, Serves k.frames s (b who f s)) : KeepsAll s (request k b s) := by
  unfold request
  split
  · exact (Keeps.refl s).all
  · rename_i f u htake
    dsimp only
    unfold takeRequest at htake
    split at htake
    · rename_i x rest hreq
      split at htake
      · rename_i hroom
        cases htake
        have hserve : Serves k.frames { s with lp.requests := rest } (serve k b f { s with lp.requests := rest }) := by
          have hone : 1 ≤ k.frames := by cases k <;> decide
          unfold serve
          split
          · exact ⟨.refl _, hone⟩
          · split
            · exact ⟨.refl _, hone⟩
            · exact hb _ _ _
        obtain ⟨hk, hlen⟩ := hserve
        have hpop : Keeps s { s with lp.requests := rest } := keeps_port s _ (by rw [hreq]; exact Nat.le_succ _) le_rfl le_rfl
        refine (hpop.trans hk).filled _ fun hq => ⟨?_, ?_, (hpop.trans hk).notices hq.2.2⟩
        · exact (hpop.trans hk).requests.trans hq.1
        · have hans : _ ≤ s.lp.answers.length := hk.answers
          have hfree : s.lp.answers.length + k.frames ≤ 16 := of_decide_eq_true hroom.2
          rw [List.length_append, replyFrames_length]
          omega
      · cases htake
    · cases htake

theorem keepsAll_refuseUnknown (s : State) : KeepsAll s (refuseUnknown s) := by
  unfold refuseUnknown
  split
  · rename_i f rest hreq
    split
    · rename_i hroom
      refine (Keeps.refl s).filled _ fun hq => ⟨?_, ?_, hq.2.2⟩
      · have := hq.1
        rw [hreq] at this
        exact (Nat.le_succ _).trans this
      · have hfree : s.lp.answers.length + 1 ≤ 16 := of_decide_eq_true hroom.2
        show (s.lp.answers ++ [_]).length ≤ 16
        rw [List.length_append]
        exact hfree
    · exact (Keeps.refl s).all
  · exact (Keeps.refl s).all

theorem keepsAll_receiveFrame (s : State) (f : Frame) : KeepsAll s (receiveFrame s f) := by
  unfold receiveFrame
  split
  · have hh : Quiet s (restartHeartbeat s f) := by
      unfold restartHeartbeat
      split
      · exact quiet_setHeartbeat s _ _
      · exact .refl s
    unfold queueFrame
    rw [hh.requests, hh.answers]
    split
    · rename_i hroom
      refine hh.keeps.filled _ fun hq => ⟨?_, hh.answers ▸ hq.2.1, hh.notices hq.2.2⟩
      show (_ ++ [f]).length ≤ 16
      rw [List.length_append]
      exact hroom
    · split
      · rename_i hroom
        refine hh.keeps.filled _ fun hq => ⟨hh.requests ▸ hq.1, ?_, hh.notices hq.2.2⟩
        show ((restartHeartbeat s f).lp.answers ++ [_]).length ≤ 16
        rw [List.length_append, hh.answers]
        exact hroom
      · exact hh.keeps.all
  · exact (Keeps.refl s).all

/-- A body for stations alone refuses the supervisor. -/
theorem serves_stationBody {k : ReqKind} {b : Node → Frame → State → State × Reply} (h : ∀ n f s, Serves 1 s (b n f s)) (who : Sender)
    (f : Frame) (s : State) : Serves k.frames s (stationBody b who f s) := by
  have hone : 1 ≤ k.frames := by cases k <;> decide
  cases who with
  | station n => exact ⟨(h n f s).1, (h n f s).2.trans hone⟩
  | supervisor => exact ⟨.refl s, hone⟩

/-- A body for the supervisor alone refuses the stations. -/
theorem serves_supervisorBody {k : ReqKind} {b : Frame → State → State × Reply} (h : ∀ f s, Serves k.frames s (b f s)) (who : Sender)
    (f : Frame) (s : State) : Serves k.frames s (supervisorBody b who f s) := by
  have hone : 1 ≤ k.frames := by cases k <;> decide
  cases who with
  | station n => exact ⟨.refl s, hone⟩
  | supervisor => exact h f s

/-- A station's request keeps every invariant. -/
theorem keepsAll_station {k : ReqKind} {b : Node → Frame → State → State × Reply} (h : ∀ s n f, Serves 1 s (b n f s)) :
    KeepsAll s (request k (stationBody b) s) :=
  keepsAll_request (serves_stationBody fun n f s => h s n f)

/-- A supervisor's request keeps every invariant. -/
theorem keepsAll_supervisor {k : ReqKind} {b : Frame → State → State × Reply} (h : ∀ s f, Serves k.frames s (b f s)) :
    KeepsAll s (request k (supervisorBody b) s) :=
  keepsAll_request (serves_supervisorBody fun f s => h s f)

/-- An expiry of a deadline channel is taken, or is not due. -/
theorem keeps_due {now : Clock} {c : Channel} {f : Clock → Channel → State} (h : ∀ d x, Keeps s (f d x)) :
    Keeps s (match chDue now c with | some (d, x) => f d x | none => s) := by
  split
  · exact h _ _
  · exact .refl s

theorem keeps_passage (s : State) (g : Gate) :
    Keeps s (match nextPassage s g with
      | some e => if expiryComesFirst s e then s else passageAt { s with tu.passages := s.tu.passages.erase e } g e.stamp
      | none => s) := by
  split
  · split
    · exact .refl s
    · exact .after (keeps_passageAt _ _ _) (Quiet.keeps { Quiet.refl s with })
  · exact .refl s

theorem keeps_inputChange (s : State) (i : Input) :
    Keeps s (match (getInput s i).candidate with
      | some c =>
        if candidateHeld s.clock c then deliverChange (setInput s i (accepted (getInput s i) s.cfg.filterTime)) i c.stamp else s
      | none => s) := by
  split
  · split
    · exact keeps_inputAccepted s i _ _
    · exact .refl s
  · exact .refl s

/-- Every command keeps every invariant. -/
theorem exec_keepsAll {i : Instr} (h : exec i s = .next t) : KeepsAll s t := by
  cases i with
  | powerOn lv => cases h; exact (keeps_powerOn s lv _).all
  | frameReceived f => cases h; exact keepsAll_receiveFrame s f
  | unknownKind => cases h; exact keepsAll_refuseUnknown s
  | frameTransmitted => cases h; exact (keeps_endTransmission s).all
  | transmitError how => cases h; exact (keeps_failTransmission s how).all
  | busOffRecovery => cases h; exact (keeps_recoverBus s).all
  | join => cases h; exact keepsAll_station serves_join
  | leave => cases h; exact keepsAll_station serves_leave
  | pulse => cases h; exact keepsAll_station serves_pulse
  | enrol => cases h; exact keepsAll_request fun who f s => serves_enrol s who f
  | look => cases h; exact keepsAll_request fun who f s => serves_look s who f
  | claimNext => cases h; exact keepsAll_station serves_claimNext
  | reclaim => cases h; exact keepsAll_station serves_reclaim
  | classFound => cases h; exact keepsAll_station serves_classFound
  | inletRequest => cases h; exact keepsAll_station serves_inletRequest
  | pressure => cases h; exact keepsAll_station serves_pressure
  | reEvacuate => cases h; exact keepsAll_station serves_reEvacuate
  | release => cases h; exact keepsAll_station serves_release
  | configWrite => cases h; exact keepsAll_supervisor serves_configWrite
  | configRead => cases h; exact keepsAll_supervisor serves_configRead
  | recipeWrite => cases h; exact keepsAll_supervisor serves_recipeWrite
  | recipeCommit => cases h; exact keepsAll_supervisor serves_recipeCommit
  | lineStart => cases h; exact keepsAll_supervisor serves_lineStart
  | lineOpen => cases h; exact keepsAll_supervisor serves_lineOpen
  | lineResume => cases h; exact keepsAll_supervisor serves_lineResume
  | lineReset => cases h; exact keepsAll_supervisor serves_lineReset
  | adopt => cases h; exact keepsAll_supervisor serves_adopt
  | recordRead => cases h; exact keepsAll_supervisor serves_recordRead
  | zoneRead => cases h; exact keepsAll_supervisor serves_zoneRead
  | stationStatus => cases h; exact keepsAll_supervisor serves_stationStatus
  | vesselStatus => cases h; exact keepsAll_supervisor serves_vesselStatus
  | sensorStatus => cases h; exact keepsAll_supervisor serves_sensorStatus
  | chamberStatus => cases h; exact keepsAll_supervisor serves_chamberStatus
  | hold => cases h; exact keepsAll_supervisor serves_hold
  | clearHold => cases h; exact keepsAll_supervisor serves_clearHold
  | dispose => cases h; exact keepsAll_supervisor serves_dispose
  | retire => cases h; exact keepsAll_supervisor serves_retire
  | override => cases h; exact keepsAll_supervisor serves_override
  | vesselOnline => cases h; exact keepsAll_supervisor serves_vesselOnline
  | vesselOffline => cases h; exact keepsAll_supervisor serves_vesselOffline
  | bar => cases h; exact keepsAll_supervisor serves_bar
  | unbar => cases h; exact keepsAll_supervisor serves_unbar
  | gateClear => cases h; exact keepsAll_supervisor serves_gateClear
  | chamberRestart => cases h; exact keepsAll_supervisor serves_chamberRestart
  | chamberClear => cases h; exact keepsAll_supervisor serves_chamberClear
  | rawInputChange i l => cases h; exact (quiet_setInput s i _ (rawChanged_filtered _ _ _ _)).keeps.all
  | inputChangeAccepted i => cases h; exact (keeps_inputChange s i).all
  | passage g => cases h; exact (keeps_passage s g).all
  | passageTimeout g =>
    cases h
    exact (keeps_due fun d x => .after (keeps_passageTimedOut _ g) (quiet_setPassage s g x).keeps).all
  | heartbeatExpiry n => cases h; exact (keeps_due fun d x => (Quiet.after (quiet_heartbeatExpired _ n) (quiet_setHeartbeat s n x)).keeps).all
  | dwellExpiry n =>
    cases h
    split
    · exact (Quiet.after (quiet_dwellExpired _ n _) (quiet_setStationChannel s n _)).keeps.all
    · exact (Keeps.refl s).all
  | windowOpen n =>
    cases h
    split
    · exact (Quiet.after (quiet_windowOpened _ n) (quiet_setStationChannel s n _)).keeps.all
    · exact (Keeps.refl s).all
  | windowClose n =>
    cases h
    split
    · exact (Quiet.after (quiet_windowClosed _ n) (quiet_setStationChannel s n _)).keeps.all
    · exact (Keeps.refl s).all
  | settleExpiry v => cases h; exact (keeps_due fun d x => (Quiet.after (quiet_settleExpired _ v) (quiet_setSettle s v x)).keeps).all
  | slotStart => cases h; exact (steady_slotStarts s).keeps.all
  | pollEnd a b => cases h; exact (steady_pollEnds s a b).keeps.all
  | immediateUnusableAnswer r => cases h; exact (steady_immediateAnswer s r).keeps.all
  | phaseExpiry =>
    cases h
    exact (keeps_due fun d x => .after (t := { s with tu.phase := x }) (keeps_phaseExpired _ d) (Quiet.keeps { Quiet.refl s with })).all
  | pauseExpiry =>
    cases h
    exact (keeps_due fun d x => .after (t := { s with tu.pause := x }) (steady_pauseExpired _).keeps (Quiet.keeps { Quiet.refl s with })).all
  | loadExpiry =>
    cases h
    exact (keeps_due fun d x => .after (t := { s with tu.load := x }) (keeps_loadExpired _) (Quiet.keeps { Quiet.refl s with })).all
  | reconcileExpiry =>
    cases h
    exact (keeps_due fun d x => .after (t := { s with tu.reconcile := x }) (keeps_reconcileExpired _) (Quiet.keeps { Quiet.refl s with })).all
  | pwmPeriodStart => cases h; exact (quiet_nextPeriod s).keeps.all
  | transmissionStart => cases h; exact (keeps_startTransmission s).all
  | activeTimeEnd => cases h; exact (quiet_endActiveTime s).keeps.all

/-- Every step keeps every invariant. -/
theorem step_keepsAll (h : step s = .next t) : KeepsAll s t := by
  unfold step at h
  split at h
  · rename_i c rest _
    obtain ⟨h1, h2, h3, h4, h5, h6, h7, h8⟩ := exec_keepsAll h
    exact ⟨h1, h2, h3, h4, h5, h6, h7, h8⟩
  · cases h
    exact (quiet_tick s).keeps.all

end Sys2Proof.Machine
end

section
/-! The invariants settled. -/

namespace Sys2Proof.Machine

/-- Settles O53: a request is taken only with room for its answer, and every other frame joins a queue below its depth. -/
theorem queuesStayBounded : Obligations.QueuesStayBounded := fun _ _ hs h => (step_keepsAll h).queues hs

/-- Settles O54: the valve and the gate's release change only with the state they follow. -/
theorem valvesAndGatesFollowTheirStates : Obligations.ValvesAndGatesFollowTheirStates :=
  fun _ _ hs h => ⟨(step_keepsAll h).valves hs.1, (step_keepsAll h).gates hs.2⟩

/-- Settles O55: whatever changes what the interlock reads ends in a judging of the drive. -/
theorem driveStaysInterlocked : Obligations.DriveStaysInterlocked := fun _ _ hs h => (step_keepsAll h).drive hs

/-- Settles O56: every duty staged is clamped into the range of the working recipe. -/
theorem dutiesStayInRange : Obligations.DutiesStayInRange := fun _ _ hs h => (step_keepsAll h).duty hs

/-- Settles O57: records are created with values in range, and every update keeps their tags, hold sets and ranges. -/
theorem tableStaysSound : Obligations.TableStaysSound := fun _ _ hs h => (step_keepsAll h).table hs

/-- Settles O58: every movement takes a record from one list and adds it to one with a free place. -/
theorem cabinetsStandInOneZone : Obligations.CabinetsStandInOneZone := fun _ _ hs h => (step_keepsAll h).standing hs

/-- Settles O59: a write clamps its value or is refused. -/
theorem configurationStaysInRange : Obligations.ConfigurationStaysInRange := fun _ _ hs h => (step_keepsAll h).config hs

/-- Settles O60: the base case of each invariant, at power-on. -/
theorem invariantsHoldAtReset : Obligations.InvariantsHoldAtReset :=
  ⟨⟨Nat.zero_le _, Nat.zero_le _, Nat.zero_le _⟩, ⟨valves_powerOn _, (standing_powerOn _).2.1⟩, drive_powerOn _, duty_powerOn _,
    table_powerOn _, config_powerOn _, (standing_powerOn _).2.2.1, (standing_powerOn _).2.2.2⟩

end Sys2Proof.Machine
end

section
/-!
The step and the channels of TU (4.1, 4.2): one tick, and the expiries that a reached deadline brings.
-/

namespace Sys2Proof.Machine

/-- Settles O1. -/
theorem stepRunsFrontCommand : Obligations.StepRunsFrontCommand := fun _ _ _ => rfl

variable {s : State} {now d : Clock}

/-! ### The end of a run -/

/-- The expiry of a run whose deadline is reached can be taken (R74). -/
theorem chDue_reached (h : reached now d = true) : chDue now ⟨.running d, none⟩ = some (d, ⟨.idle, none⟩) := chDue_start h

theorem scDueExpiry_reached (h : reached now d = true) :
    scDueExpiry now ⟨.deadline d, none, none, none⟩ = some (d, ⟨.idle, none, none, none⟩) := by simp [scDueExpiry, h]

theorem scDueExpiry_pending : scDueExpiry now ⟨.idle, some d, none, none⟩ = some (d, ⟨.idle, none, none, none⟩) := rfl

theorem scDueOpen_reached {cl : Clock} (h : reached now d = true) :
    scDueOpen now ⟨.waiting d cl, none, none, none⟩ = some ⟨.opened cl, none, none, none⟩ := by simp [scDueOpen, h]

theorem scDueOpen_pending {cl : Clock} : scDueOpen now ⟨.opened cl, none, some d, none⟩ = some ⟨.opened cl, none, none, none⟩ := rfl

theorem scDueClose_reached (h : reached now d = true) :
    scDueClose now ⟨.opened d, none, none, none⟩ = some ⟨.idle, none, none, none⟩ := by simp [scDueClose, h]

theorem scDueClose_pending : scDueClose now ⟨.idle, none, none, some d⟩ = some ⟨.idle, none, none, none⟩ := rfl

/-- A channel with nothing pending and no deadline reached gives its owner nothing (assumption 1). -/
theorem chDue_none {c : Channel} (he : c.expiry = none) (hr : ∀ d, c.run = .running d → reached now d = false) :
    chDue now c = none := by
  obtain ⟨r, e⟩ := c
  obtain rfl : e = none := he
  cases r with
  | running x => simp [chDue, hr x rfl]
  | idle => rfl
  | frozen x => rfl

theorem scDueExpiry_none {c : StationChannel} (he : c.expiry = none) (hr : ∀ d, c.run = .deadline d → reached now d = false) :
    scDueExpiry now c = none := by
  obtain ⟨r, e, o, cl⟩ := c
  obtain rfl : e = none := he
  cases r with
  | deadline x => simp [scDueExpiry, hr x rfl]
  | idle => rfl
  | waiting x y => rfl
  | opened x => rfl

theorem scDueOpen_none {c : StationChannel} (he : c.openEv = none) (hr : ∀ o cl, c.run = .waiting o cl → reached now o = false) :
    scDueOpen now c = none := by
  obtain ⟨r, e, o, cl⟩ := c
  obtain rfl : o = none := he
  cases r with
  | waiting x y => simp [scDueOpen, hr x y rfl]
  | idle => rfl
  | deadline x => rfl
  | opened x => rfl

theorem scDueClose_none {c : StationChannel}
    (h : c.openEv ≠ none ∨ (c.closeEv = none ∧ ∀ cl, c.run = .opened cl → reached now cl = false)) : scDueClose now c = none := by
  obtain ⟨r, e, o, cl⟩ := c
  cases o with
  | some x => rfl
  | none =>
    rcases h with h | ⟨he, hr⟩
    · exact absurd rfl h
    · obtain rfl : cl = none := he
      cases r with
      | opened x => simp [scDueClose, hr x rfl]
      | idle => rfl
      | deadline x => rfl
      | waiting x y => rfl

/-! ### Durations -/

/-- A deadline is reached exactly when its duration has elapsed, across a wrap of the clock too (R72). -/
theorem reached_after {t : Clock} {duration elapsed : Nat} (hd : duration ≤ 1800000) (he : elapsed < 2 ^ 31) :
    reached (t + msec elapsed) (t + msec duration) = true ↔ duration ≤ elapsed := by
  have hsub : (t + msec elapsed - (t + msec duration)).toNat = (elapsed + (2 ^ 32 - duration)) % 2 ^ 32 := by
    rw [show t + msec elapsed - (t + msec duration) = msec elapsed - msec duration by bv_omega]
    simp only [msec, BitVec.toNat_sub, BitVec.toNat_ofNat]
    omega
  unfold reached
  rw [decide_eq_true_iff, hsub]
  omega

/-! ### The owners' commands -/

/-- Setting an entry twice. -/
theorem set_set_fin {α : Type} {n : Nat} (v : Vector α n) (i : Fin n) (a b : α) : (v.set i a).set i b = v.set i b := by simp

theorem get_set_fin {α : Type} {n : Nat} (v : Vector α n) (i : Fin n) (a : α) : (v.set i a)[i] = a := by simp

theorem GateTab.set_set {α : Type} (t : GateTab α) (g : Gate) (a b : α) : (t.set g a).set g b = t.set g b := by
  cases g with
  | lane l => cases l <;> rfl
  | feed => rfl

/-- The owners' commands at a run whose deadline is reached, and at the expiry TU has delivered (R74, assumption 6). -/
theorem exec_expiry_reached (s : State) (h : reached s.clock d = true) (n : Node) :
    exec (.heartbeatExpiry n) { s with tu.heartbeat := s.tu.heartbeat.set n ⟨.running d, none⟩ }
        = exec (.heartbeatExpiry n) { s with tu.heartbeat := s.tu.heartbeat.set n ⟨.idle, some d⟩ }
      ∧ exec (.dwellExpiry n) { s with tu.station := s.tu.station.set n ⟨.deadline d, none, none, none⟩ }
        = exec (.dwellExpiry n) { s with tu.station := s.tu.station.set n ⟨.idle, some d, none, none⟩ }
      ∧ (∀ cl : Clock,
          exec (.windowOpen n) { s with tu.station := s.tu.station.set n ⟨.waiting d cl, none, none, none⟩ }
            = exec (.windowOpen n) { s with tu.station := s.tu.station.set n ⟨.opened cl, none, some d, none⟩ })
      ∧ exec (.windowClose n) { s with tu.station := s.tu.station.set n ⟨.opened d, none, none, none⟩ }
        = exec (.windowClose n) { s with tu.station := s.tu.station.set n ⟨.idle, none, none, some d⟩ } := by
  refine ⟨?_, ?_, fun cl => ?_, ?_⟩
  · simp only [exec, execHeartbeatExpiry, get_set_fin, chDue_reached h, chDue_pending, setHeartbeat, set_set_fin]
  · simp only [exec, execDwellExpiry, get_set_fin, scDueExpiry_reached h, scDueExpiry_pending, setStationChannel, set_set_fin]
  · simp only [exec, execWindowOpen, get_set_fin, scDueOpen_reached h, scDueOpen_pending, setStationChannel, set_set_fin]
  · simp only [exec, execWindowClose, get_set_fin, scDueClose_reached h, scDueClose_pending, setStationChannel, set_set_fin]

/-- Settles O2: each channel's advance is read off its run, and a command that is not due finds nothing to take. -/
theorem idleStepIsOneTick : Obligations.IdleStepIsOneTick := by
  refine ⟨fun s hp => ?_, fun now c => ⟨fun d hd => ?_, ?_⟩, fun now d e r c => ⟨rfl, rfl, rfl, fun h => ?_, fun h => ?_⟩,
    fun n => ⟨rfl, rfl⟩, fun t a b ha hb => reached_after ha hb, fun now c => ⟨fun h => ?_, fun d h => ?_, fun o cl h => ?_, fun cl h => ?_⟩,
    fun now c => ?_, fun now c => ?_, fun s d h => ⟨exec_expiry_reached s h, fun v => ?_, fun g => ?_, ?_, ?_, ?_, ?_⟩,
    fun s waits hw => ⟨fun n => ⟨fun h => ?_, fun h1 h2 => ?_, fun h1 h2 => ?_, fun h => ?_⟩, fun v h => ?_, fun g h => ?_,
      fun h => ?_, fun h => ?_, fun h => ?_, fun h => ?_⟩⟩
  · have hstep : step s = .next (tick s) := by
      unfold step
      rw [hp]
    refine ⟨advanceChannels (s.clock + 1) s.tu, hstep, rfl, fun n => ⟨by simp [advanceChannels], by simp [advanceChannels]⟩,
      fun v => by simp [advanceChannels], fun g => ?_⟩
    cases g with
    | lane l => cases l <;> rfl
    | feed => rfl
  · simp only [chAdvance, hd, reached, decide_eq_true_eq]
  · rintro (h | ⟨r, h⟩)
    · simp only [chAdvance, h]
    · simp only [chAdvance, h]
  · unfold chFreeze
    split
    · exact absurd ‹_› (h _)
    · rfl
  · unfold chResume
    split
    · exact absurd ‹_› (h _)
    · rfl
  · simp only [scAdvance, h]
  · simp only [scAdvance, h]
  · simp only [scAdvance, h]
    cases reached now o <;> cases reached now cl <;> rfl
  · simp only [scAdvance, h]
  · obtain ⟨r, e, o, cl⟩ := c
    cases r <;> rfl
  · obtain ⟨r, e⟩ := c
    cases r <;> rfl
  · simp only [exec, execSettleExpiry, get_set_fin, chDue_reached h, chDue_pending, setSettle, set_set_fin]
  · simp only [exec, execPassageTimeout, GateTab.get_set_same, chDue_reached h, chDue_pending, setPassage, GateTab.set_set]
  · simp only [exec, execPhaseExpiry, chDue_reached h, chDue_pending]
  · simp only [exec, execPauseExpiry, chDue_reached h, chDue_pending]
  · simp only [exec, execLoadExpiry, chDue_reached h, chDue_pending]
  · simp only [exec, execReconcileExpiry, chDue_reached h, chDue_pending]
  · simp only [exec, execHeartbeatExpiry, chDue_none ((hw _).mp h).1 ((hw _).mp h).2]
  · simp only [exec, execDwellExpiry, scDueExpiry_none h1 h2]
  · simp only [exec, execWindowOpen, scDueOpen_none h1 h2]
  · simp only [exec, execWindowClose, scDueClose_none h]
  · simp only [exec, execSettleExpiry, chDue_none ((hw _).mp h).1 ((hw _).mp h).2]
  · simp only [exec, execPassageTimeout, chDue_none ((hw _).mp h).1 ((hw _).mp h).2]
  · simp only [exec, execPhaseExpiry, chDue_none ((hw _).mp h).1 ((hw _).mp h).2]
  · simp only [exec, execPauseExpiry, chDue_none ((hw _).mp h).1 ((hw _).mp h).2]
  · simp only [exec, execLoadExpiry, chDue_none ((hw _).mp h).1 ((hw _).mp h).2]
  · simp only [exec, execReconcileExpiry, chDue_none ((hw _).mp h).1 ((hw _).mp h).2]

end Sys2Proof.Machine
end

section
/-!
Power-on, the receipt of frames, the bits of a frame, and the taking of a request (chapters 11 and 12).
-/

namespace Sys2Proof.Machine

variable {s : State} {f : Frame} {rest : List Frame} {k : ReqKind} {n : Node}

/-! ### Power-on -/

/-- Settles O3: every part of the start state is read off the definition; the tables entry by entry. -/
theorem powerOnGivesTheStartState : Obligations.PowerOnGivesTheStartState := by
  intro lv s
  refine ⟨{ State.powerOn lv with pending := s.pending },
    GateTab.get ⟨⟨lv.barrierA, lv.barrierB, lv.barrierC⟩, lv.barrierFeed⟩, rfl, rfl, ⟨rfl, rfl, rfl, rfl⟩, rfl, rfl, rfl, rfl,
    fun p => ?_, fun g => ?_, fun n => ?_, fun v => ?_, rfl, rfl, rfl, rfl, rfl, rfl, rfl, rfl, rfl, rfl, fun i => ?_, rfl, rfl, rfl, rfl, rfl,
    rfl, rfl, ⟨rfl, rfl, rfl, rfl, rfl⟩, rfl, rfl, rfl, rfl, rfl, rfl, rfl, rfl, rfl, rfl, rfl⟩
  · have hz : ∀ n : Node, ((Vector.replicate 12 StationEntry.initial)[n]).claim.toList = [] := fun n => by
      rw [getElem_replicate_fin]
      rfl
    cases p with
    | station n => exact hz n
    | lane l => cases l <;> rfl
    | _ => rfl
  · cases g with
    | lane l => cases l <;> exact ⟨rfl, rfl, rfl, rfl⟩
    | feed => exact ⟨rfl, rfl, rfl, rfl⟩
  · exact ⟨getElem_replicate_fin _ n, getElem_replicate_fin _ n, getElem_replicate_fin _ n, getElem_replicate_fin _ n⟩
  · refine ⟨getElem_replicate_fin _ v, ?_⟩
    revert v
    exact fun
      | 0 => ⟨rfl, rfl⟩
      | 1 => ⟨rfl, rfl⟩
      | 2 => ⟨rfl, rfl⟩
      | 3 => ⟨rfl, rfl⟩
  · have h : (Vector.replicate 16 Sensor.initial)[i] = Sensor.initial := getElem_replicate_fin _ i
    show (Vector.replicate 16 Sensor.initial)[i]
      = { Sensor.initial with thresholds := ((Vector.replicate 16 Sensor.initial)[i]).thresholds }
    rw [h]

/-! ### Receipt (R188, R189) -/

/-- The senders that a source node can stand for (R187). -/
theorem senderOf_isSome_iff (m : Nat) : (senderOf m).isSome = true ↔ (1 ≤ m ∧ m ≤ 12) ∨ m = 14 := by
  unfold senderOf supervisorNode
  split
  · simp [*]
  · rename_i h
    simp only [Option.isSome_map, nodeOf]
    split
    · simp [*]
    · rename_i hn
      simp [hn, h]

theorem frameAccepted_iff (f : Frame) : frameAccepted f = true ↔
    f.extended = true ∧ f.remote = false ∧ f.busError = false ∧ f.data.length ≤ 8 ∧ frameDest f = 0
      ∧ ((1 ≤ frameSource f ∧ frameSource f ≤ 12) ∨ frameSource f = 14) := by
  simp only [frameAccepted, Bool.and_eq_true, Bool.not_eq_true', decide_eq_true_eq, beq_iff_eq, frameSender, senderOf_isSome_iff,
    and_assoc]

/-- The counters after a frame: that of its station is restarted (R79). -/
theorem restartHeartbeat_frame (s : State) (f : Frame) :
    ∃ h : Vector Channel 12, restartHeartbeat s f = { s with tu.heartbeat := h }
      ∧ ∀ m : Node, h[m] = if frameSource f = nodeNumber m
          then chRestart s.clock s.cfg.heartbeatTimeout s.tu.heartbeat[m] else s.tu.heartbeat[m] := by
  unfold restartHeartbeat
  split
  · rename_i n hn
    have hsrc : ∀ m : Node, frameSource f = nodeNumber m ↔ n = m := by
      intro m
      constructor
      · intro e
        rw [frameSender, e, senderOf_nodeNumber] at hn
        cases hn
        rfl
      · rintro rfl
        unfold frameSender senderOf at hn
        split at hn
        · cases hn
        · obtain ⟨x, hx, he⟩ := Option.map_eq_some_iff.mp hn
          cases he
          unfold nodeOf at hx
          split at hx
          · cases hx
            simp only [nodeNumber]
            omega
          · cases hx
    refine ⟨s.tu.heartbeat.set n (chRestart s.clock s.cfg.heartbeatTimeout s.tu.heartbeat[n]), rfl, fun m => ?_⟩
    by_cases e : n = m
    · subst e
      rw [if_pos ((hsrc n).mpr rfl), get_set_fin]
    · rw [if_neg fun h => e ((hsrc m).mp h)]
      have : n.val ≠ m.val := fun h => e (Fin.ext h)
      simp [this]
  · rename_i hno
    refine ⟨s.tu.heartbeat, rfl, fun m => ?_⟩
    rw [if_neg]
    intro e
    refine hno m ?_
    rw [frameSender, e, senderOf_nodeNumber]

/-- Settles O4: the filter, the restart and the three outcomes at the depths of the queues. -/
theorem frameReceivedIsQueuedOrAnswered : Obligations.FrameReceivedIsQueuedOrAnswered := by
  refine ⟨fun f s => ⟨fun h => ?_, fun hb hf => ?_⟩, frameAccepted_iff, fun now d ms e _ _ => ⟨rfl, rfl, rfl⟩⟩
  · have hno : ¬(s.lp.bus = .onBus ∧ frameAccepted f = true) := by
      rintro ⟨h1, h2⟩
      rcases h with h | h
      · rw [h] at h1
        cases h1
      · rw [h] at h2
        cases h2
    exact congrArg Host.Outcome.next (if_neg hno)
  · obtain ⟨h, hr, hh⟩ := restartHeartbeat_frame s f
    have hexec : exec (.frameReceived f) s = .next (queueFrame { s with tu.heartbeat := h } f) := by
      rw [← hr]
      exact congrArg Host.Outcome.next (if_pos ⟨hb, hf⟩)
    refine ⟨h, hh, fun h1 => ?_, fun h1 h2 => ?_, fun h1 h2 => ?_⟩
    · rw [hexec]
      exact congrArg Host.Outcome.next (if_pos h1)
    · rw [hexec]
      exact congrArg Host.Outcome.next ((if_neg (Nat.not_lt.mpr h1)).trans (if_pos h2))
    · rw [hexec]
      exact congrArg Host.Outcome.next ((if_neg (Nat.not_lt.mpr h1)).trans (if_neg (Nat.not_lt.mpr h2)))

/-! ### The bits of a frame (R187, R197, R198) -/

theorem frameKind_eq (f : Frame) : frameKind f = f.ident.toNat / 2 ^ 21 := by
  have := f.ident.isLt
  simp only [frameKind, BitVec.extractLsb'_toNat, Nat.shiftRight_eq_div_pow]
  omega

theorem frameSource_eq (f : Frame) : frameSource f = f.ident.toNat / 2 ^ 17 % 16 := by
  simp only [frameSource, BitVec.extractLsb'_toNat, Nat.shiftRight_eq_div_pow]

theorem frameDest_eq (f : Frame) : frameDest f = f.ident.toNat / 2 ^ 13 % 16 := by
  simp only [frameDest, BitVec.extractLsb'_toNat, Nat.shiftRight_eq_div_pow]

/-- The fields of an Enrol that its bytes spell. -/
theorem frameEnrol_of_data {f : Frame} {b0 b1 b2 b3 b4 b5 b6 b7 : Byte} (h : f.data = [b0, b1, b2, b3, b4, b5, b6, b7]) :
    frameEnrol f =
      ⟨BitVec.ofNat 32 (b0.toNat * 2 ^ 24 + b1.toNat * 2 ^ 16 + b2.toNat * 2 ^ 8 + b3.toNat), b4.toNat / 64, b4.toNat / 16 % 4,
        ⟨(b6.toNat * 256 + b7.toNat) / 2048, b4.toNat / 8 % 2 == 1, (b6.toNat * 256 + b7.toNat) % 2048⟩, b4.toNat / 4 % 2 == 1,
        b4.toNat % 4 * 256 + b5.toNat⟩ := by
  simp [frameEnrol, frameByte, h]

/-- A tag is its four bytes, most significant first. -/
theorem tag_of_bytes (t : Tag) :
    BitVec.ofNat 32 ((t.extractLsb' 24 8).toNat * 2 ^ 24 + (t.extractLsb' 16 8).toNat * 2 ^ 16 + (t.extractLsb' 8 8).toNat * 2 ^ 8
      + (t.extractLsb' 0 8).toNat) = t := by
  apply BitVec.eq_of_toNat_eq
  have := t.isLt
  simp only [BitVec.extractLsb'_toNat, Nat.shiftRight_eq_div_pow, BitVec.toNat_ofNat]
  omega

/-- Settles O7: an identifier and the data of an Enrol are sums of their fields at the places of their bits. -/
theorem frameBitsReadBack : Obligations.FrameBitsReadBack := by
  refine ⟨fun f => ⟨frameKind_eq f, frameSource_eq f, frameDest_eq f⟩, fun f g h => ?_, fun kind source dest part h1 h2 h3 h4 => ?_,
    fun tag cls foam weight declared seconds hd hw f h1 h2 h3 h4 h5 hf => ?_⟩
  · have hn : f.ident.toNat / 2 ^ 13 % 2 ^ 16 = g.ident.toNat / 2 ^ 13 % 2 ^ 16 := by
      have := congrArg BitVec.toNat h
      simpa only [BitVec.extractLsb'_toNat, Nat.shiftRight_eq_div_pow] using this
    have hf := f.ident.isLt
    have hg := g.ident.isLt
    rw [frameKind_eq, frameKind_eq, frameSource_eq, frameSource_eq, frameDest_eq, frameDest_eq]
    omega
  · simp only [identOf, BitVec.toNat_ofNat]
    omega
  · have hb : hd.toNat ≤ 1 := Bool.toNat_le hd
    have hc : hw.toNat ≤ 1 := Bool.toNat_le hw
    have hsmall : cls * 64 + foam * 16 + hd.toNat * 8 + hw.toNat * 4 + seconds / 256 < 256 := by omega
    rw [frameEnrol_of_data hf, tag_of_bytes]
    simp only [BitVec.toNat_ofNat, Nat.mod_eq_of_lt hsmall]
    have e1 : (weight * 8 + declared / 256) % 2 ^ 8 * 256 + declared % 256 % 2 ^ 8 = weight * 2048 + declared := by omega
    have e2 : (cls * 64 + foam * 16 + hd.toNat * 8 + hw.toNat * 4 + seconds / 256) / 8 % 2 = hd.toNat := by omega
    have e3 : (cls * 64 + foam * 16 + hd.toNat * 8 + hw.toNat * 4 + seconds / 256) / 4 % 2 = hw.toNat := by omega
    have e4 : (cls * 64 + foam * 16 + hd.toNat * 8 + hw.toNat * 4 + seconds / 256) / 64 = cls := by omega
    have e5 : (cls * 64 + foam * 16 + hd.toNat * 8 + hw.toNat * 4 + seconds / 256) / 16 % 4 = foam := by omega
    have e6 : (cls * 64 + foam * 16 + hd.toNat * 8 + hw.toNat * 4 + seconds / 256) % 4 = seconds / 256 := by omega
    have e9 : seconds / 256 * 256 + seconds % 256 % 2 ^ 8 = seconds := by
      rw [show seconds % 256 % 2 ^ 8 = seconds % 256 from Nat.mod_mod seconds 256, Nat.div_add_mod']
    have e7 : (weight * 2048 + declared) / 2048 = weight := by omega
    have e8 : (weight * 2048 + declared) % 2048 = declared := by omega
    have hbool : ∀ b : Bool, (b.toNat == 1) = b := fun b => by cases b <;> rfl
    rw [e1, e2, e3, e4, e5, e6, e9, e7, e8, hbool, hbool]

/-! ### The taking of a request (R190, R191) -/

/-- What the owner of each request does with it. -/
def bodyOf : ReqKind → Body
  | .join => stationBody joinBody
  | .leave => stationBody leaveBody
  | .pulse => stationBody pulseBody
  | .enrol => enrolBody
  | .look => lookBody
  | .claimNext => stationBody claimNextBody
  | .reclaim => stationBody reclaimBody
  | .classFound => stationBody classFoundBody
  | .inletRequest => stationBody inletRequestBody
  | .pressure => stationBody pressureBody
  | .reEvacuate => stationBody reEvacuateBody
  | .release => stationBody releaseBody
  | .configWrite => supervisorBody configWriteBody
  | .configRead => supervisorBody configReadBody
  | .recipeWrite => supervisorBody recipeWriteBody
  | .recipeCommit => supervisorBody recipeCommitBody
  | .lineStart => supervisorBody lineStartBody
  | .lineOpen => supervisorBody lineOpenBody
  | .lineResume => supervisorBody lineResumeBody
  | .lineReset => supervisorBody lineResetBody
  | .adopt => supervisorBody adoptBody
  | .recordRead => supervisorBody recordReadBody
  | .zoneRead => supervisorBody zoneReadBody
  | .stationStatus => supervisorBody stationStatusBody
  | .vesselStatus => supervisorBody vesselStatusBody
  | .sensorStatus => supervisorBody sensorStatusBody
  | .chamberStatus => supervisorBody chamberStatusBody
  | .hold => supervisorBody holdBody
  | .clearHold => supervisorBody clearHoldBody
  | .dispose => supervisorBody disposeBody
  | .retire => supervisorBody retireBody
  | .override => supervisorBody overrideBody
  | .vesselOnline => supervisorBody vesselOnlineBody
  | .vesselOffline => supervisorBody vesselOfflineBody
  | .bar => supervisorBody barBody
  | .unbar => supervisorBody unbarBody
  | .gateClear => supervisorBody gateClearBody
  | .chamberRestart => supervisorBody chamberRestartBody
  | .chamberClear => supervisorBody chamberClearBody

/-- The command of a request takes it with its owner's body. -/
theorem exec_requestCommand (k : ReqKind) (s : State) : exec (requestCommand k) s = .next (request k (bodyOf k) s) := by
  cases k <;> rfl

/-- A request of a station that passes the sender checks is its body, answered. -/
theorem exec_of_station (h : FromStation s k n f rest) :
    exec (requestCommand k) s =
      .next (placeAnswer (bodyOf k (.station n) f (popped s rest)).1
        (replyFrames (nodeNumber n) k.code (bodyOf k (.station n) f (popped s rest)).2)) := by
  rw [exec_requestCommand, request_of_station h]

/-- A request of the supervisor that it may send is its body, answered. -/
theorem exec_of_supervisor (h : FromSupervisor s k f rest) :
    exec (requestCommand k) s =
      .next (placeAnswer (bodyOf k .supervisor f (popped s rest)).1
        (replyFrames supervisorNode k.code (bodyOf k .supervisor f (popped s rest)).2)) := by
  rw [exec_requestCommand, request_of_supervisor h]

/-- Without a head of its kind, or room for its answer, a request is not taken (R190). -/
theorem takeRequest_none (h : ∀ f rest, s.lp.requests = f :: rest → frameKind f = k.code → 16 < s.lp.answers.length + k.frames) :
    takeRequest k s = none := by
  unfold takeRequest
  split
  · rename_i f rest hq
    rw [if_neg]
    rintro ⟨hk, hr⟩
    have := h f rest hq hk
    have hr' : s.lp.answers.length + k.frames ≤ 16 := of_decide_eq_true hr
    omega
  · rfl

/-- A request taken and refused before its owner sees it changes the two queues alone. -/
theorem request_refused {b : Body} {who : Sender} {r : Reason} (hq : s.lp.requests = f :: rest) (hk : frameKind f = k.code)
    (hr : s.lp.answers.length + k.frames ≤ 16) (hw : frameSender f = some who) (h : senderRefusal k f who (popped s rest) = some r) :
    request k b s = answeredWith (popped s rest) (refusedFrame (frameSource f) k.code r) := by
  have ht : takeRequest k s = some (f, popped s rest) := by
    simp [takeRequest, hq, hk, hasRoom, Config.queueDepth, hr, popped]
  simp only [request, ht, serve, hw, h]
  rfl

theorem senderRefusal_short {who : Sender} (h : f.data.length < k.minBytes) : senderRefusal k f who s = some .badValue := if_pos h

theorem senderRefusal_station (h : k.minBytes ≤ f.data.length) :
    senderRefusal k f (.station n) s =
      if k ≠ .join ∧ s.stations[n].state ≠ .joined then some .notJoined
      else if k.stationMay s.stations[n].kind = false then some .notPermitted
      else if s.line.state = .stopped ∧ k.refusedInStopped = true then some .lineState
      else none := if_neg (Nat.not_lt.mpr h)

theorem isRequestCode_iff (code : Nat) : isRequestCode code = true ↔ (0x11 ≤ code ∧ code ≤ 0x1C) ∨ (0x21 ≤ code ∧ code ≤ 0x3B) := by
  simp only [isRequestCode, reqTable, List.any_cons, List.any_nil, Bool.or_false, Bool.or_eq_true, beq_iff_eq]
  omega

/-- The kinds of station requests that read their record first, in RUN for those that are line work. -/
theorem unknownTag_station (h : FromStation s k n f rest) (hno : lookup s f.fields.tag = none)
    (hk : k = .pressure ∨ (k = .classFound ∧ s.line.state ≠ .config ∧ f.fields.classCode ≤ 2)
      ∨ ((k = .release ∨ k = .inletRequest ∨ k = .reEvacuate) ∧ s.line.state = .run)) :
    exec (requestCommand k) s = .next (answeredWith (popped s rest) (refusedFrame (nodeNumber n) k.code .unknownTag)) := by
  have hno' : lookup (popped s rest) f.fields.tag = none := hno
  have hbody : bodyOf k (.station n) f (popped s rest) = (popped s rest, replyRefused .unknownTag) := by
    rcases hk with rfl | ⟨rfl, hc, hcode⟩ | ⟨rfl | rfl | rfl, hrun⟩
    · simp [bodyOf, stationBody, pressureBody, hno', refuse]
    · have hclass : ∃ c, foundClass f.fields.classCode = some c := by
        generalize f.fields.classCode = m at hcode
        interval_cases m
        · exact ⟨_, rfl⟩
        · exact ⟨_, rfl⟩
        · exact ⟨_, rfl⟩
      obtain ⟨c, hc'⟩ := hclass
      simp [bodyOf, stationBody, classFoundBody, hno', hc, hc', refuse]
    · simp [bodyOf, stationBody, releaseBody, hno', hrun, refuse]
    · simp [bodyOf, stationBody, inletRequestBody, hno', hrun, refuse]
    · simp [bodyOf, stationBody, reEvacuateBody, hno', hrun, refuse]
  rw [exec_of_station h, hbody]
  rfl

theorem unknownTag_supervisor (h : FromSupervisor s k f rest) (hno : lookup s f.fields.tag = none)
    (hk : k = .hold ∨ k = .dispose ∨ k = .retire ∨ k = .override) :
    exec (requestCommand k) s = .next (answeredWith (popped s rest) (refusedFrame 14 k.code .unknownTag)) := by
  have hno' : lookup (popped s rest) f.fields.tag = none := hno
  have hbody : bodyOf k .supervisor f (popped s rest) = (popped s rest, replyRefused .unknownTag) := by
    rcases hk with rfl | rfl | rfl | rfl
    · simp [bodyOf, supervisorBody, holdBody, hno', refuse]
    · simp [bodyOf, supervisorBody, disposeBody, hno', refuse]
    · simp [bodyOf, supervisorBody, retireBody, hno', refuse]
    · simp [bodyOf, supervisorBody, overrideBody, hno', refuse]
  rw [exec_of_supervisor h, hbody]
  rfl

/-- Settles O5: a request is taken only at the head with room, and refused by the length check, then the sender checks, in their order. -/
theorem requestWaitsOrIsRefused : Obligations.RequestWaitsOrIsRefused := by
  refine ⟨⟨fun k s h => ?_, fun k s f rest hq hk hr => ⟨fun hlen hsome => ?_, fun hlen n hsrc => ⟨fun hj hst => ?_, fun hst hmay => ?_,
      fun hst hmay hstop hkind => ?_⟩, fun hlen hsrc hmay => ?_⟩⟩,
    ⟨fun s f rest hq hcode hroom => ?_, isRequestCode_iff⟩,
    fun s f rest k hno => ⟨fun n h hk => unknownTag_station h hno hk, fun h hk => unknownTag_supervisor h hno hk⟩, by decide,
    fun k ofExtract hx => ⟨?_, fun held => ?_⟩⟩
  · rw [exec_requestCommand, request_waits (takeRequest_none h)]
  · obtain ⟨who, hw⟩ := Option.isSome_iff_exists.mp hsome
    rw [exec_requestCommand, request_refused hq hk hr hw (senderRefusal_short hlen)]
  · have hw : frameSender f = some (.station n) := by rw [frameSender, hsrc, senderOf_nodeNumber]
    rw [exec_requestCommand, request_refused hq hk hr hw ((senderRefusal_station hlen).trans (if_pos ⟨hj, hst⟩)), hsrc]
  · have hw : frameSender f = some (.station n) := by rw [frameSender, hsrc, senderOf_nodeNumber]
    rw [exec_requestCommand, request_refused hq hk hr hw ((senderRefusal_station hlen).trans
      ((if_neg fun h => h.2 hst).trans (if_pos hmay))), hsrc]
  · have hw : frameSender f = some (.station n) := by rw [frameSender, hsrc, senderOf_nodeNumber]
    have href : k.refusedInStopped = true := by rcases hkind with rfl | rfl | rfl | rfl <;> rfl
    have hmay' : ¬ k.stationMay s.stations[n].kind = false := by rw [hmay]; decide
    rw [exec_requestCommand, request_refused hq hk hr hw ((senderRefusal_station hlen).trans
      ((if_neg fun h => h.2 hst).trans ((if_neg hmay').trans (if_pos ⟨hstop, href⟩)))), hsrc]
  · have hw : frameSender f = some .supervisor := by rw [frameSender, hsrc]; rfl
    have hrefusal : senderRefusal k f .supervisor (popped s rest) = some .notPermitted :=
      (if_neg (Nat.not_lt.mpr hlen)).trans (if_pos hmay)
    rw [exec_requestCommand, request_refused hq hk hr hw hrefusal, hsrc]
  · have hroom' : hasRoom s 1 = true := decide_eq_true hroom
    have : refuseUnknown s = answeredWith (popped s rest) (refusedFrame (frameSource f) (frameKind f) .unknownKind) := by
      simp only [refuseUnknown, hq, hcode, hroom', and_self, if_true]
      rfl
    exact congrArg Host.Outcome.next this
  · rw [hx]
    cases k <;> simp [ReqKind.supervisorMay]
  · rw [hx]
    cases k <;> simp [ReqKind.stationMay]

end Sys2Proof.Machine
end

section
/-!
The transmitter (R192 to R195); the taken request read once for both senders; Join, Leave, Pulse and Look (3.2 to 3.4).
-/

namespace Sys2Proof.Machine

variable {s t : State} {f : Frame} {rest : List Frame} {k : ReqKind} {n : Node}

/-! ### The transmitter -/

/-- The bytes of a result, whichever of the three cases it is (R192). -/
theorem resultBytes_of {r : Result} {b : List Byte} (h1 : r = .empty → b = []) (h2 : ∀ l, r = .bytes l → b = l)
    (h3 : r ≠ .empty → (∀ l, r ≠ .bytes l) → b = Config.resultBytes r) : resultBytes r = b := by
  cases r with
  | empty => rw [h1 rfl]; rfl
  | bytes l => rw [h2 l rfl]; rfl
  | _ => rw [h3 (by simp) (by simp)]; rfl

theorem nextFrame_empty (ha : s.lp.answers = []) (hn : s.lp.notices = []) : nextFrame s = none := by
  simp [nextFrame, nextSide, ha, hn]

theorem nextFrame_answer {a : AnswerFrame} {as : List AnswerFrame} (ha : s.lp.answers = a :: as) (hn : s.lp.notices = []) :
    nextFrame s = some ⟨.answer, formAnswer a⟩ := by
  simp [nextFrame, nextSide, ha, hn]

theorem nextFrame_notice {x : Notice} {xs : List Notice} (ha : s.lp.answers = []) (hn : s.lp.notices = x :: xs) :
    nextFrame s = some ⟨.notice, formNotice x s.lp.noticeParts⟩ := by
  simp [nextFrame, nextSide, ha, hn]

/-- With both queues filled, an answer begun goes on, and else the preferred queue is served (R194). -/
theorem nextFrame_both {a : AnswerFrame} {as : List AnswerFrame} {x : Notice} {xs : List Notice} (ha : s.lp.answers = a :: as)
    (hn : s.lp.notices = x :: xs) :
    nextFrame s = some (if 0 < a.part ∨ s.lp.prefer = .transmit then ⟨.answer, formAnswer a⟩
      else ⟨.notice, formNotice x s.lp.noticeParts⟩) := by
  by_cases hp : 0 < a.part
  · simp [nextFrame, nextSide, answerBegun, ha, hn, hp]
  · cases hpref : s.lp.prefer with
    | transmit => simp [nextFrame, nextSide, answerBegun, ha, hn, hp, hpref]
    | notice => simp [nextFrame, nextSide, answerBegun, ha, hn, hp, hpref]

/-- A notice leaves with its last frame (R194). -/
theorem noticeSent_eq {p : LinePort} {x : Notice} {xs : List Notice} {parts : Nat} (hn : p.notices = x :: xs)
    (hp : parts = (match x.body with | .discharge .. => 2 | _ => 1)) :
    noticeSent p = { p with
      notices := if p.noticeParts + 1 < parts then x :: xs else xs
      noticeParts := if p.noticeParts + 1 < parts then p.noticeParts + 1 else 0 } := by
  have hf : noticeFrames x.body = parts := by
    rw [hp]
    cases x.body <;> rfl
  unfold noticeSent
  rw [hn]
  dsimp only
  rw [hf]
  by_cases h : p.noticeParts + 1 < parts
  · rw [if_neg (by omega), if_pos h, if_pos h, ← hn]
  · rw [if_pos (by omega), if_neg h, if_neg h]

/-- Settles O6: the frame begun follows the queues and the turn; what a transmission's end takes follows its side. -/
theorem transmitterSendsTheQueues : Obligations.TransmitterSendsTheQueues := by
  refine ⟨fun s => ⟨fun hb hs => ?_, fun h => ?_⟩, fun a => ⟨rfl, fun r b h1 h2 h3 => ⟨fun ha => ?_, fun st why kind ha => ?_⟩⟩,
    fun x part => ?_, fun s dest body => rfl, fun s fr => ⟨fun a as hs ha => ?_, fun x xs parts hp hs hn => ?_, fun hs => ?_,
      fun hs => ?_, fun hb => ?_, fun hs => ⟨?_, fun w => ?_⟩⟩⟩
  · have hstart : exec .transmissionStart s = .next { s with lp.sending := nextFrame s } :=
      congrArg Host.Outcome.next (if_pos ⟨hb, hs⟩)
    rw [hstart]
    refine ⟨fun ha hn => ?_, fun a as ha hn => ?_, fun x xs ha hn => ?_, fun a as x xs ha hn => ?_⟩
    · rw [nextFrame_empty ha hn, ← hs]
    · rw [nextFrame_answer ha hn]
    · rw [nextFrame_notice ha hn]
    · rw [nextFrame_both ha hn]
  · refine congrArg Host.Outcome.next (if_neg ?_)
    rintro ⟨hb, hs⟩
    rcases h with h | h
    · rw [hb] at h
      cases h
    · exact h hs
  · have hr := resultBytes_of h1 h2 h3
    refine ⟨?_, ?_⟩
    · show answerData a.body = _
      rw [ha, answerData, zeroFilled, hr]
      rfl
    · show FrameItems.result a.body.result = _
      rw [ha]
      rfl
  · have hr := resultBytes_of h1 h2 h3
    refine ⟨?_, ?_⟩
    · show FrameItems.result a.body.result = _
      rw [ha]
      rfl
    · show answerData a.body = _
      rw [ha, answerData, zeroFilled, hr]
      have hw : reasonCode why = reasonCode why := rfl
      cases st <;> cases why with
      | none => rfl
      | some w => cases w <;> rfl
  · obtain ⟨d, body⟩ := x
    cases body <;> rfl
  · refine congrArg Host.Outcome.next ?_
    simp only [endTransmission, hs, ha, List.tail_cons]
  · refine congrArg Host.Outcome.next ?_
    have h := noticeSent_eq (p := { s.lp with sending := none, errorCount := s.lp.errorCount - 1 }) hn hp
    simp only [endTransmission, hs, h]
  · refine congrArg Host.Outcome.next ?_
    simp only [endTransmission, hs]
  · obtain ⟨w, hw⟩ := Option.ne_none_iff_exists'.mp hs
    refine ⟨congrArg Host.Outcome.next ?_, congrArg Host.Outcome.next ?_⟩
    · simp only [failTransmission, hw]
    · simp only [failTransmission, hw]
      rfl
  · refine congrArg Host.Outcome.next ?_
    simp only [recoverBus, hb]
  · refine congrArg Host.Outcome.next ?_
    simp only [endTransmission, hs]
  · refine congrArg Host.Outcome.next ?_
    simp only [failTransmission, hs]

/-! ### A taken request -/

/-- A station's request whose body is answered DONE in one frame. -/
theorem exec_station_done (h : FromStation s k n f rest) {r : Result} (hb : bodyOf k (.station n) f (popped s rest) = answerDone t r) :
    exec (requestCommand k) s = .next (answeredWith t (doneFrame (nodeNumber n) k.code r)) := by
  rw [exec_of_station h, hb]
  rfl

/-- A station's request that its owner refuses. -/
theorem exec_station_refused (h : FromStation s k n f rest) {r : Reason}
    (hb : bodyOf k (.station n) f (popped s rest) = refuse (popped s rest) r) :
    exec (requestCommand k) s = .next (answeredWith (popped s rest) (refusedFrame (nodeNumber n) k.code r)) := by
  rw [exec_of_station h, hb]
  rfl

/-- A supervisor's request whose body is answered DONE in one frame. -/
theorem exec_supervisor_done (h : FromSupervisor s k f rest) {r : Result} (hb : bodyOf k .supervisor f (popped s rest) = answerDone t r) :
    exec (requestCommand k) s = .next (answeredWith t (doneFrame 14 k.code r)) := by
  rw [exec_of_supervisor h, hb]
  rfl

/-- A supervisor's request that its owner refuses. -/
theorem exec_supervisor_refused (h : FromSupervisor s k f rest) {r : Reason}
    (hb : bodyOf k .supervisor f (popped s rest) = refuse (popped s rest) r) :
    exec (requestCommand k) s = .next (answeredWith (popped s rest) (refusedFrame 14 k.code r)) := by
  rw [exec_of_supervisor h, hb]
  rfl

/-- What a request reads is there once its frame is taken. -/
@[simp] theorem lookup_popped (rest : List Frame) (t : Tag) : lookup (popped s rest) t = lookup s t := rfl

/-- An update of the records of a tag, with the test as an equation. -/
theorem updRecord_eq (s : State) (t : Tag) (g : Record → Record) :
    updRecord s t g = { s with records := s.records.map fun x => if x.tag = t then g x else x } := by
  unfold updRecord
  simp only [beq_iff_eq]

theorem isHeld_false_iff {r : Record} : isHeld r = false ↔ r.holds = [] := by
  cases h : r.holds <;> simp [isHeld, h]

theorem isHeld_true_iff {r : Record} : isHeld r = true ↔ r.holds ≠ [] := by
  cases h : r.holds <;> simp [isHeld, h]

/-! ### What the station-loss effects leave -/

theorem placeNotice_frame (s : State) (d : Nat) (b : NoticeBody) : ∃ p, placeNotice s d b = { s with lp := p } := by
  unfold placeNotice
  split
  · exact ⟨_, rfl⟩
  · exact ⟨s.lp, rfl⟩

/-- The withdrawal of an inlet leaves the stations. -/
theorem withdrawInlet_stations (s : State) (t : Tag) : (withdrawInlet s t).stations = s.stations := by
  unfold withdrawInlet
  split
  · rfl
  · split
    · dsimp only
      split
      · split
        · unfold abandonGrant
          obtain ⟨u, p, h⟩ := grantAttempt_frame (updVessel (withdrawSample (setStage (leaveQueues s t) t .claimed) (.vessel ‹_›)) ‹_›
            fun x => { x with state := .idle, bound := none })
            ((updVessel (withdrawSample (setStage (leaveQueues s t) t .claimed) (.vessel ‹_›)) ‹_›
            fun x => { x with state := .idle, bound := none }).vu.vessels[(‹_› : VesselIx)].streamClass)
          simp only [h]
          rfl
        · rfl
      · rfl
    · rfl

theorem unwindClaim_stations (s : State) (n : Node) (r : Record) : (unwindClaim s n r).stations = s.stations := by
  unfold unwindClaim
  split
  · rfl
  · exact withdrawInlet_stations s r.tag
  · dsimp only
    split
    · split
      · rfl
      · rfl
    · rfl
  · rfl
  · rfl

theorem addHold_stations (s : State) (t : Tag) (h : HoldReason) (k : Nat) (a : Option Stage) :
    (addHold s t h k a).stations = s.stations := by
  obtain ⟨rs, p, hf, -⟩ := addHold_frame s t h k a
  rw [hf]

theorem stationLoss_stations (s : State) (n : Node) (k : Nat) : (stationLoss s n k).stations = s.stations := by
  unfold stationLoss
  split
  · rfl
  · rw [addHold_stations, unwindClaim_stations]

theorem routingAttempt_stations (s : State) : (routingAttempt s).stations = s.stations := by
  rcases routingAttempt_cases s with h | ⟨r, l, -, -, h⟩
  · rw [h]
  · rw [h]
    rfl

/-! ### Join -/

theorem rejoinEffects_stations (s : State) (n : Node) (e : StationEntry) : (rejoinEffects s n e).stations = s.stations := by
  unfold rejoinEffects
  split
  · rfl
  · split
    · exact stationLoss_stations s n 0
    · exact addHold_stations s _ _ _ _

/-- The granted set of a Join, by kind and by the rating of the lane (R54). -/
theorem joinGranted_eq (s : State) (f : Frame) (k : StationKind) :
    joinGranted s f k = match k, f.fields.lane with
      | .intake, _ => f.fields.offered
      | .extract, none => { f.fields.offered with h := false, f := false }
      | .extract, some l =>
        { f.fields.offered with
          h := f.fields.offered.h && decide (s.cfg.ratings.get l = .h ∨ s.cfg.ratings.get l = .hf)
          f := f.fields.offered.f && decide (s.cfg.ratings.get l = .hf) } := by
  cases k with
  | intake => rfl
  | extract =>
    cases hl : f.fields.lane with
    | none => simp [joinGranted, joinLane, hl, grantedSet]
    | some l =>
      cases hr : s.cfg.ratings.get l <;> simp [joinGranted, joinLane, hl, grantedSet, hr]

/-- The checks of a Join in CONFIG and of a BARRED entry come first (R53). -/
theorem joinRefusal_first (h : s.line.state ≠ .config) (hb : s.stations[n].state ≠ .barred) :
    joinRefusal n f s = match f.fields.stationKind with
      | none => some .badValue
      | some k =>
        if k = .extract ∧ f.fields.lane = none then some .badValue
        else if f.fields.offeredOther then some .badValue
        else if s.stations[n].claim.isSome ∧ ¬(s.stations[n].kind = some k ∧ s.stations[n].lane = joinLane f k) then some .notPermitted
        else match joinLane f k with
          | some l => if 3 ≤ othersOnLane s n l then some .notPermitted else none
          | none => none := by
  unfold joinRefusal
  cases f.fields.stationKind with
  | none => exact (if_neg h).trans (if_neg hb)
  | some k => exact (if_neg h).trans (if_neg hb)

theorem joinBody_refused {r : Reason} (h : joinRefusal n f s = some r) : joinBody n f s = refuse s r := by
  unfold joinBody
  rw [h]

theorem joinBody_taken {c : StationKind} (h : joinRefusal n f s = none) (hk : f.fields.stationKind = some c) :
    joinBody n f s = answerDone (takeJoin n f c s) (.joined (joinGranted s f c) (claimTag s.stations[n])) := by
  have hst : (takeJoin n f c s).stations = s.stations.set n (joinedEntry s f c s.stations[n]) := by
    unfold takeJoin
    dsimp only
    have hr := rejoinEffects_stations (startHeartbeat (updStation s n (joinedEntry s f c)) n) n s.stations[n]
    split
    · rw [routingAttempt_stations, hr]
      rfl
    · rw [hr]
      rfl
  have he : (takeJoin n f c s).stations[n] = joinedEntry s f c s.stations[n] := by rw [hst, get_set_fin]
  unfold joinBody
  rw [h, hk]
  show answerDone (takeJoin n f c s) (.joined (takeJoin n f c s).stations[n].granted (claimTag (takeJoin n f c s).stations[n])) = _
  rw [he]
  rfl

/-- A Join that passes its checks (R54, R55). -/
theorem takeJoin_eq (s : State) (n : Node) (f : Frame) (c : StationKind) {u : State}
    (hu : u = startHeartbeat (updStation s n (joinedEntry s f c)) n) :
    takeJoin n f c s =
      (let v := match s.stations[n].claim with
        | none => u
        | some t => if s.stations[n].state = .joined then stationLoss u n 0 else addHold u t .stationLost 0
       if newlySniffs s.stations[n] u.stations[n] = true then routingAttempt v else v) := by
  have hv : (match s.stations[n].claim with
        | none => u
        | some t => if s.stations[n].state = .joined then stationLoss u n 0 else addHold u t .stationLost 0)
      = rejoinEffects u n s.stations[n] := by
    unfold rejoinEffects
    cases s.stations[n].claim <;> rfl
  dsimp only
  rw [hv, ← rejoinEffects_stations u n s.stations[n], hu]
  rfl

theorem newlySniffs_iff (a b : StationEntry) : newlySniffs a b = true ↔
    ∃ l : Lane, b.lane = some l ∧ b.state = .joined ∧ b.granted.sniff = true
      ∧ ¬(a.state = .joined ∧ a.lane = some l ∧ a.granted.sniff = true) := by
  simp only [newlySniffs, Option.any_eq_true, sniffsOn, Bool.and_eq_true, beq_iff_eq, Bool.not_eq_true']
  constructor
  · rintro ⟨l, hl, ⟨⟨h1, -⟩, h2⟩, h3⟩
    refine ⟨l, hl, h1, h2, fun ⟨g1, g2, g3⟩ => ?_⟩
    simp [g1, g2, g3] at h3
  · rintro ⟨l, hl, h1, h2, h3⟩
    refine ⟨l, hl, ⟨⟨h1, hl⟩, h2⟩, ?_⟩
    rw [Bool.eq_false_iff]
    intro hc
    simp only [Bool.and_eq_true, beq_iff_eq] at hc
    exact h3 ⟨hc.1.1, hc.1.2, hc.2⟩

theorem othersOnLane_eq (s : State) (n : Node) (l : Lane) : othersOnLane s n l
    = ([0, 1, 2, 3, 4, 5, 6, 7, 8, 9, 10, 11].filter fun m : Node => m ≠ n ∧ s.stations[m].kind = some .extract
        ∧ s.stations[m].lane = some l ∧ s.stations[m].state ≠ .absent).length := by
  have hall : allNodes = [0, 1, 2, 3, 4, 5, 6, 7, 8, 9, 10, 11] := by decide
  unfold othersOnLane
  rw [hall]
  refine congrArg List.length (congrFun (congrArg List.filter (funext fun m => ?_)) _)
  rw [Bool.eq_iff_iff]
  simp only [Bool.and_eq_true, bne_iff_ne, beq_iff_eq, decide_eq_true_eq, and_assoc]

/-- The lane a Join takes: none for INTAKE (R53). -/
theorem joinLane_eq (f : Frame) (c : StationKind) : joinLane f c = if c = .extract then f.fields.lane else none := by
  cases c <;> rfl

/-- Settles O8: Join's checks in their order, what a taken Join changes, and the three requests that change at most one entry. -/
theorem joinLeavePulseAndLook : Obligations.JoinLeavePulseAndLook := by
  refine ⟨⟨fun s n f rest c h hl hb hk ho hlane hclaim => ?_, fun s n f rest h => ⟨fun hc => ?_, fun hl hb => ?_, fun hl hb hbad => ?_,
      fun hl hb hk ho hclaim hother => ?_, fun l hl hb hk hlane ho hbad => ?_⟩⟩,
    ⟨fun s n f rest h => ⟨fun hc => ?_, fun hc => ?_⟩, fun s n f rest h => exec_station_done h rfl,
      fun s f rest dest h => ⟨fun r hr => ?_, fun hr => ?_⟩⟩, newlySniffs_iff, othersOnLane_eq⟩
  · have hno : joinRefusal n f (popped s rest) = none := by
      rw [joinRefusal_first (s := popped s rest) hl hb, hk]
      show (if c = .extract ∧ f.fields.lane = none then some Reason.badValue else
        if f.fields.offeredOther = true then some .badValue else
        if s.stations[n].claim.isSome = true ∧ ¬(s.stations[n].kind = some c ∧ s.stations[n].lane = joinLane f c) then some .notPermitted
        else _) = none
      rw [if_neg, ho, if_neg Bool.false_ne_true, if_neg]
      · cases c with
        | intake => rfl
        | extract =>
          obtain ⟨l, h1, h2⟩ := hlane rfl
          show (match f.fields.lane with
            | some l => if 3 ≤ othersOnLane s n l then some Reason.notPermitted else none
            | none => none) = none
          rw [h1]
          exact if_neg (by omega)
      · rintro ⟨h1, h2⟩
        refine h2 ?_
        rw [joinLane_eq]
        exact hclaim (Option.isSome_iff_ne_none.mp h1)
      · rintro ⟨rfl, h2⟩
        obtain ⟨l, h1, -⟩ := hlane rfl
        rw [h1] at h2
        cases h2
    refine ⟨joinGranted s f c, _, joinGranted_eq s f c, rfl, ?_⟩
    refine exec_station_done h ((joinBody_taken hno hk).trans ?_)
    rw [takeJoin_eq (popped s rest) n f c rfl]
    simp only [startHeartbeat, updStation, joinedEntry, joinLane_eq]
    rfl
  · have hno : joinRefusal n f (popped s rest) = some .lineState := by
      unfold joinRefusal
      cases f.fields.stationKind with
      | none => exact if_pos hc
      | some k => exact if_pos hc
    exact exec_station_refused h (joinBody_refused hno)
  · have hno : joinRefusal n f (popped s rest) = some .notPermitted := by
      unfold joinRefusal
      cases f.fields.stationKind with
      | none => exact (if_neg hl).trans (if_pos hb)
      | some k => exact (if_neg hl).trans (if_pos hb)
    exact exec_station_refused h (joinBody_refused hno)
  · refine exec_station_refused h (joinBody_refused ((joinRefusal_first (s := popped s rest) hl hb).trans ?_))
    rcases hbad with hk | ⟨hk, hlane⟩ | ho
    · rw [hk]
    · rw [hk]
      exact if_pos ⟨rfl, hlane⟩
    · cases f.fields.stationKind with
      | none => rfl
      | some c =>
        show (if c = .extract ∧ f.fields.lane = none then some Reason.badValue else if f.fields.offeredOther = true then some .badValue else _) = _
        rw [if_pos ho, ite_self]
  · refine exec_station_refused h (joinBody_refused ((joinRefusal_first (s := popped s rest) hl hb).trans ?_))
    rw [hk, ho]
    show (if StationKind.intake = .extract ∧ f.fields.lane = none then some Reason.badValue else
        if false = true then some .badValue else
        if s.stations[n].claim.isSome = true ∧ ¬(s.stations[n].kind = some .intake ∧ s.stations[n].lane = none) then some .notPermitted
        else none) = _
    rw [if_neg (fun h => by cases h.1), if_neg Bool.false_ne_true]
    exact if_pos ⟨Option.isSome_iff_ne_none.mpr hclaim, fun hx => hother.elim (fun h => h hx.1) fun h => h hx.2⟩
  · refine exec_station_refused h (joinBody_refused ((joinRefusal_first (s := popped s rest) hl hb).trans ?_))
    rw [hk, ho]
    show (if StationKind.extract = .extract ∧ f.fields.lane = none then some Reason.badValue else
        if false = true then some .badValue else
        if s.stations[n].claim.isSome = true ∧ ¬(s.stations[n].kind = some .extract ∧ s.stations[n].lane = f.fields.lane) then some .notPermitted
        else match f.fields.lane with
          | some l => if 3 ≤ othersOnLane s n l then some .notPermitted else none
          | none => none) = _
    rw [hlane, if_neg (fun h => by cases h.2), if_neg Bool.false_ne_true]
    rcases hbad with ⟨h1, h2⟩ | h1
    · exact if_pos ⟨Option.isSome_iff_ne_none.mpr h1, fun hx => h2.elim (fun h => h hx.1) fun h => h hx.2⟩
    · simp only [if_pos h1, ite_self]
  · have hb : leaveBody n f (popped s rest) = answerDone (updStation (setHeartbeat (popped s rest) n chStopped) n absentEntry) .empty :=
      if_neg (by rw [show (popped s rest).stations[n].claim = none from hc]; decide)
    exact exec_station_done h hb
  · exact exec_station_refused h (if_pos (Option.isSome_iff_ne_none.mpr hc))
  · rcases h with ⟨rfl, h⟩ | ⟨n, rfl, h⟩
    · have := exec_of_supervisor h
      simp only [bodyOf, lookBody, lookup_popped, hr] at this
      exact this
    · have := exec_of_station h
      simp only [bodyOf, lookBody, lookup_popped, hr] at this
      exact this
  · rcases h with ⟨rfl, h⟩ | ⟨n, rfl, h⟩
    · exact exec_supervisor_refused h (by simp only [bodyOf, lookBody, lookup_popped, hr])
    · exact exec_station_refused h (by simp only [bodyOf, lookBody, lookup_popped, hr])

end Sys2Proof.Machine
end

section
/-!
Station loss and Bar (3.4 to 3.6), Claim Next and Release (3.7, 2.5), Reclaim and Class Found (3.8, 3.9).
-/

namespace Sys2Proof.Machine

variable {s t : State} {f : Frame} {rest : List Frame} {k : ReqKind} {n : Node}

/-! ### Updates of records -/

/-- Two updates of the records of one tag are one. -/
theorem updRecord_updRecord (s : State) (t : Tag) {g : Record → Record} (h : Record → Record) (hg : ∀ r, (g r).tag = r.tag) :
    updRecord (updRecord s t g) t h = updRecord s t fun r => h (g r) := by
  unfold updRecord
  simp only [List.map_map]
  refine congrArg (fun l => { s with records := l }) (List.map_congr_left fun r _ => ?_)
  simp only [Function.comp_apply]
  by_cases e : r.tag = t
  · simp [e, hg]
  · simp [e]

/-- What an update leaves of a record that a lookup finds. -/
theorem lookup_updRecord_some {t : Tag} {r : Record} {g : Record → Record} (hr : lookup s t = some r) (hg : ∀ r, (g r).tag = r.tag) :
    lookup (updRecord s t g) t = some (g r) := by
  rw [lookup_updRecord_same s t g hg, hr]
  rfl

/-! ### Station loss -/

theorem chDue_of_expiry {now d : Clock} {c : Channel} (h : c.expiry = some d) : chDue now c = some (d, { c with expiry := none }) := by
  obtain ⟨r, e⟩ := c
  obtain rfl : e = some d := h
  rfl

theorem stationLoss_of_claim {t : Tag} {r : Record} (hc : s.stations[n].claim = some t) (hr : lookup s t = some r) (by_ : Nat) :
    stationLoss s n by_ = addHold (unwindClaim s n r) t .stationLost by_ := by
  unfold stationLoss
  rw [hc]
  show (match lookup s t with
    | none => s
    | some r => addHold (unwindClaim s n r) r.tag .stationLost by_) = _
  rw [hr]
  show addHold (unwindClaim s n r) r.tag .stationLost by_ = _
  rw [(lookup_some hr).2.1]

/-- A waiting inlet that is withdrawn while no grant to it is in BASELINE (R90). -/
theorem withdrawInlet_queued {t : Tag} {r : Record} (hr : lookup s t = some r) (hst : r.stage = .waitInlet)
    (hv : ∀ v, boundVessel s t = some v → s.vu.vessels[v].state ≠ .baseline) :
    withdrawInlet s t = setStage (leaveQueues s t) t .claimed := by
  unfold withdrawInlet
  rw [hr]
  dsimp only
  rw [if_pos hst]
  have hb : boundVessel (setStage (leaveQueues s t) t .claimed) t = boundVessel s t := rfl
  rw [hb]
  split
  · rename_i v hbv
    exact if_neg (hv v hbv)
  · rfl

/-- A waiting inlet withdrawn while its grant is in BASELINE: the vessel is free for the next grant (R90, R120). -/
theorem withdrawInlet_granted {t : Tag} {r : Record} {v : VesselIx} (hr : lookup s t = some r) (hst : r.stage = .waitInlet)
    (hb : boundVessel s t = some v) (hv : s.vu.vessels[v].state = .baseline) :
    withdrawInlet s t = grantAttempt (setStage { s with
      vu := { s.vu with
        vessels := s.vu.vessels.set v { s.vu.vessels[v] with state := .idle, bound := none }
        inqH := s.vu.inqH.filter (·.tag != t)
        inqF := s.vu.inqF.filter (·.tag != t) }
      sn.requests := s.sn.requests.filter (·.requester != .vessel v)
      sn.immediate := s.sn.immediate.filter (· != .vessel v) } t .claimed) s.vu.vessels[v].streamClass := by
  unfold withdrawInlet
  rw [hr]
  dsimp only
  rw [if_pos hst, show boundVessel (setStage (leaveQueues s t) t .claimed) t = some v from hb]
  dsimp only
  rw [if_pos (show (setStage (leaveQueues s t) t .claimed).vu.vessels[v].state = .baseline from hv)]
  unfold abandonGrant
  dsimp only
  rw [updVessel_same]
  rfl

/-- The closing of a valve: the settle channel runs from the reference (R115). -/
theorem closeValve_eq (s : State) (v : VesselIx) (d : Clock) :
    closeValve s v d = { s with
      vu.vessels := s.vu.vessels.set v { s.vu.vessels[v] with valve := false, state := .settling }
      tu.settle := s.tu.settle.set v (chStart (d + sec s.vu.vessels[v].settleS)) } := by
  unfold closeValve
  dsimp only
  rw [updVessel_same]
  rfl

/-- Settles O9: the effects by the claimed record's stage, and the ways an entry is lost. -/
theorem stationLostByHeartbeatOrBar : Obligations.StationLostByHeartbeatOrBar := by
  refine ⟨⟨fun s n d he hj => ?_, fun s n by_ => ⟨fun hc => ?_, fun t r hc hr => ⟨fun hst => ?_, fun hst => ?_, fun hst => ?_,
      fun hst hv => ?_, fun v hst hb hv => ?_, fun v hst hb hv => ?_⟩⟩⟩, fun s f rest h => ⟨fun hn => ?_, fun n hn => ?_⟩⟩
  · refine congrArg Host.Outcome.next ?_
    rw [chDue_of_expiry he]
    exact if_pos (show (setHeartbeat s n _).stations[n].state = .joined from hj)
  · unfold stationLoss
    rw [hc]
    rfl
  · rw [stationLoss_of_claim hc hr]
    unfold unwindClaim
    rw [hst]
  · rw [stationLoss_of_claim hc hr]
    unfold unwindClaim
    rw [hst]
    rfl
  · rw [stationLoss_of_claim hc hr]
    unfold unwindClaim
    rw [hst, (lookup_some hr).2.1]
    rfl
  · rw [stationLoss_of_claim hc hr]
    unfold unwindClaim
    rw [hst, (lookup_some hr).2.1, withdrawInlet_queued hr hst hv]
    rfl
  · refine ⟨_, rfl, ?_⟩
    rw [stationLoss_of_claim hc hr]
    unfold unwindClaim
    rw [hst, (lookup_some hr).2.1, withdrawInlet_granted hr hst hb hv]
    generalize hs0 : setStage { s with
      vu := { s.vu with
        vessels := s.vu.vessels.set v { s.vu.vessels[v] with state := .idle, bound := none }
        inqH := s.vu.inqH.filter (·.tag != t)
        inqF := s.vu.inqF.filter (·.tag != t) }
      sn.requests := s.sn.requests.filter (·.requester != .vessel v)
      sn.immediate := s.sn.immediate.filter (· != .vessel v) } t .claimed = s0
    have h1 : s0.tu = s.tu ∧ s0.progress = s.progress := by
      rw [← hs0]
      exact ⟨rfl, rfl⟩
    obtain ⟨u, p, hg⟩ := grantAttempt_frame s0 s.vu.vessels[v].streamClass
    rw [hg]
    simp only [discardProgress, clearProgress, updProgress, setStationChannel, scStopped, h1]
  · rw [stationLoss_of_claim hc hr]
    unfold unwindClaim
    rw [hst, (lookup_some hr).2.1]
    dsimp only
    rw [hb]
    dsimp only
    rw [if_pos hv, closeValve_eq]
    rfl
  · exact exec_supervisor_refused h (by
      show barBody f (popped s rest) = _
      rw [barBody, nodeOf_eq_none hn])
  · have hb : barBody f (popped s rest) = answerDone (barNode (popped s rest) n) .empty := by
      rw [barBody, hn, nodeOf_nodeNumber]
    rw [show exec .bar s = exec (requestCommand .bar) s from rfl, exec_supervisor_done h hb]
    unfold barNode
    rw [popped_stations]
    cases s.stations[n].state <;> rfl

end Sys2Proof.Machine
end

section
/-!
Claim Next and Release (3.7, 2.5); Reclaim and Class Found (3.8, 3.9).
-/

namespace Sys2Proof.Machine

variable {s t : State} {f : Frame} {rest : List Frame} {k : ReqKind} {n : Node}

/-! ### Claim Next -/

/-- A record that a claim passes over is held, or its class is not covered. -/
theorem filter_claim_none {r? : Option Record} {g : Abilities}
    (h : ∀ r, r? = some r → r.holds = [] → covers g r.cls = false) : (r?.filter fun r => !isHeld r && covers g r.cls) = none := by
  rw [Option.filter_eq_none_iff]
  intro r hr
  by_cases hh : r.holds = []
  · simp [h r hr hh]
  · simp [isHeld_true_iff.mpr hh]

theorem claimable_none {e : StationEntry} {l : Lane}
    (h : ∀ t ∈ s.zu.lanes.get l, ∀ r, lookup s t = some r → r.holds = [] → covers e.granted r.cls = false) : claimable s e l = none :=
  List.findSome?_eq_none_iff.mpr fun t ht => filter_claim_none (h t ht)

/-- The first record of the lane without a hold whose class is covered (R64). -/
theorem claimable_first {e : StationEntry} {l : Lane} {before after : List Tag} {t : Tag} {r : Record}
    (hl : s.zu.lanes.get l = before ++ t :: after) (hr : lookup s t = some r) (hh : r.holds = []) (hc : covers e.granted r.cls = true)
    (hb : ∀ x ∈ before, ∀ y, lookup s x = some y → y.holds = [] → covers e.granted y.cls = false) : claimable s e l = some r := by
  have hbefore : before.findSome? (fun t => (lookup s t).filter fun r => !isHeld r && covers e.granted r.cls) = none :=
    List.findSome?_eq_none_iff.mpr fun x hx => filter_claim_none (hb x hx)
  have hthis : (lookup s t).filter (fun r => !isHeld r && covers e.granted r.cls) = some r := by
    rw [hr, Option.filter_some_pos]
    simp [isHeld_false_iff.mpr hh, hc]
  unfold claimable
  rw [hl, List.findSome?_append, hbefore, List.findSome?_cons, hthis]
  rfl

/-- DONE1 of a record that names its station sends STAGE DONE there (R97, R105). -/
theorem enterDone1Empty_of_station {t : Tag} {r : Record} {m : Node} (hr : lookup s t = some r) (hst : r.station = some m) :
    enterDone1Empty s t = placeNotice (updRecord s t fun x => { x with verdict := .empty, stage := .done1, done1Stamp := some s.clock })
      (nodeNumber m) (.stageDone t .empty r.recovered) := by
  unfold enterDone1Empty enterDone1
  rw [show (updRecord s t fun r => { r with verdict := Verdict.empty }).clock = s.clock from rfl,
    updRecord_updRecord s t (g := fun r => { r with verdict := Verdict.empty })
      (fun r => { r with stage := .done1, done1Stamp := some s.clock }) fun _ => rfl]
  unfold sendStageDone
  rw [lookup_updRecord_some (g := fun r => { r with verdict := Verdict.empty, stage := .done1, done1Stamp := some s.clock }) hr fun _ => rfl]
  simp only [hst]
  rfl

/-- A claim: the record leaves the lane for the position, CLAIMED, or DONE1 and EMPTY for class N (R65, R39). -/
theorem takeClaim_eq {l : Lane} {t : Tag} {r : Record} (hr : lookup s t = some r) {u : State}
    (hu : u = { s with
      zu.lanes := s.zu.lanes.set l ((s.zu.lanes.get l).filter (· != t))
      stations := s.stations.set n { s.stations[n] with claim := some t }
      records := s.records.map fun x => if x.tag = t then
        (if r.cls = .n then { x with station := some n, stage := .done1, verdict := .empty, done1Stamp := some s.clock }
         else { x with station := some n, stage := .claimed }) else x }) :
    takeClaim s n l r = routingAttempt (if r.cls = .n then placeNotice u (nodeNumber n) (.stageDone t .empty r.recovered) else u) := by
  have htag := (lookup_some hr).2.1
  let s1 : State := { s with
    zu.lanes := s.zu.lanes.set l ((s.zu.lanes.get l).filter (· != t))
    stations := s.stations.set n { s.stations[n] with claim := some t } }
  have hs1 : putTail (takeOut s (.lane l) r.tag) (.station n) r.tag = s1 := by rw [htag]; rfl
  have hr1 : lookup s1 t = some r := hr
  unfold takeClaim
  dsimp only
  rw [hs1, htag]
  refine congrArg routingAttempt ?_
  by_cases hn : r.cls = .n
  · rw [if_pos hn, if_pos hn, enterDone1Empty_of_station (lookup_updRecord_some (g := fun x => { x with station := some n }) hr1 fun _ => rfl) rfl,
      updRecord_updRecord s1 t (g := fun x => { x with station := some n }) _ fun _ => rfl, updRecord_eq, hu]
    simp only [if_pos hn]
    rfl
  · rw [if_neg hn, if_neg hn, setStage, updRecord_updRecord s1 t (g := fun x => { x with station := some n }) _ fun _ => rfl, updRecord_eq, hu]
    simp only [if_neg hn]
    rfl

section
variable {l : Lane} (hrun : s.line.state = .run) (hc : s.stations[n].claim = none) (hl : s.stations[n].lane = some l)
include hrun hc hl

/-- A lane without a fitting record. -/
theorem claimNextBody_none (h : claimable s s.stations[n] l = none) : claimNextBody n f s = refuse s .noneAvailable := by
  unfold claimNextBody
  dsimp only
  rw [if_neg (fun h => h hrun), hc, if_neg (by decide), hl]
  dsimp only
  rw [h]

theorem claimNextBody_some {r : Record} (h : claimable s s.stations[n] l = some r) :
    claimNextBody n f s = answerDone (takeClaim s n l r) (.claimed r.tag r.cls) := by
  unfold claimNextBody
  dsimp only
  rw [if_neg (fun h => h hrun), hc, if_neg (by decide), hl]
  dsimp only
  rw [h]

end

/-! ### Release -/

section
variable {r : Record} (hrun : s.line.state = .run) (hr : lookup s f.fields.tag = some r)
include hrun hr

theorem releaseBody_found : releaseBody n f s =
    if ownsClaim s n f.fields.tag = false then refuse s .notPermitted
    else if r.stage ≠ .done1 then refuse s .badStage
    else if isHeld r then refuse s .notEligible
    else if hasFreePlace s .buffer = false then refuse s .zoneFull
    else answerDone (selectionAttempt (putTail (leavePosition s n f.fields.tag) .buffer f.fields.tag))
      (.occupancy (putTail (leavePosition s n f.fields.tag) .buffer f.fields.tag).zu.buffer.length) := by
  unfold releaseBody
  dsimp only
  rw [if_neg (fun h => h hrun), hr]
  simp only [Bool.not_eq_true']

end

/-- BUFFER has a free place while it holds fewer records than its capacity (R26). -/
theorem hasFreePlace_buffer : hasFreePlace s .buffer = decide (s.zu.buffer.length < s.cfg.capBuffer) := rfl

theorem ownsClaim_false {t : Tag} (h : s.stations[n].claim ≠ some t) : ownsClaim s n t = false := beq_eq_false_iff_ne.mpr h

theorem ownsClaim_true {t : Tag} (h : s.stations[n].claim = some t) : ¬ ownsClaim s n t = false := by
  unfold ownsClaim
  rw [h, beq_self_eq_true]
  decide

/-- Settles O11: the first fitting record of the lane, and a release's checks in their order. -/
theorem claimNextAndRelease : Obligations.ClaimNextAndRelease := by
  refine ⟨fun s n f rest h => ⟨fun hl hs => ?_, fun hl hc => ?_, fun l hl hc hlane => ⟨fun hno => ?_, fun before after t r hb hr hh hcov hpast => ?_⟩⟩,
    fun s n f rest h hl => ?_, fun s n f rest r h hl hr => ⟨fun hc => ?_, fun hc => ⟨fun hst => ?_, fun hst hh => ?_, fun hst hh hfull => ?_,
      fun hst hh hfree => ?_⟩⟩, fun g => rfl⟩
  · exact exec_station_refused h (if_pos hl)
  · exact exec_station_refused h ((if_neg (fun h => h hl)).trans (if_pos (Option.isSome_iff_ne_none.mpr hc)))
  · exact exec_station_refused h (claimNextBody_none (s := popped s rest) (f := f) hl hc hlane (claimable_none (s := popped s rest) hno))
  · have hfirst := claimable_first (s := popped s rest) hb hr hh hcov hpast
    refine ⟨_, rfl, exec_station_done h ((claimNextBody_some (s := popped s rest) (f := f) hl hc hlane hfirst).trans ?_)⟩
    rw [takeClaim_eq (s := popped s rest) (t := t) hr rfl, (lookup_some hr).2.1]
    rfl
  · exact exec_station_refused h (if_pos hl)
  · exact exec_station_refused h ((releaseBody_found (s := popped s rest) hl hr).trans (if_pos (ownsClaim_false (s := popped s rest) hc)))
  · exact exec_station_refused h ((releaseBody_found (s := popped s rest) hl hr).trans
      ((if_neg (ownsClaim_true (s := popped s rest) hc)).trans (if_pos hst)))
  · exact exec_station_refused h ((releaseBody_found (s := popped s rest) hl hr).trans
      ((if_neg (ownsClaim_true (s := popped s rest) hc)).trans ((if_neg (fun h => h hst)).trans (if_pos (isHeld_true_iff.mpr hh)))))
  · refine exec_station_refused h ((releaseBody_found (s := popped s rest) hl hr).trans
      ((if_neg (ownsClaim_true (s := popped s rest) hc)).trans ((if_neg (fun h => h hst)).trans
        ((if_neg (by rw [isHeld_false_iff.mpr hh]; decide)).trans (if_pos ?_)))))
    rw [hasFreePlace_buffer]
    exact decide_eq_false (Nat.not_lt.mpr hfull)
  · refine exec_station_done h ((releaseBody_found (s := popped s rest) hl hr).trans
      ((if_neg (ownsClaim_true (s := popped s rest) hc)).trans ((if_neg (fun h => h hst)).trans
        ((if_neg (by rw [isHeld_false_iff.mpr hh]; decide)).trans ((if_neg ?_).trans ?_)))))
    · have hroom : hasFreePlace (popped s rest) .buffer = true := decide_eq_true hfree
      rw [hroom]
      decide
    · rw [leavePosition, updRecord_eq]
      simp [putTail, takeOut, updStation]

end Sys2Proof.Machine
end

section
/-!
Reclaim and Class Found (3.8, 3.9, 12.3).
-/

namespace Sys2Proof.Machine

variable {s t : State} {f : Frame} {rest : List Frame} {k : ReqKind} {n : Node}

/-! ### What CS and ZU leave -/

/-- A phase entry changes the notices, the generator and the chamber alone. -/
theorem enterPhase_frame (s : State) (p : Phase) (c : PhaseCause) :
    ∃ (lp : LinePort) (tu : TimerUnit) (cs : Chamber), enterPhase s p c = { s with lp := lp, tu := tu, cs := cs } := by
  obtain ⟨w, o, h⟩ := drivePattern_frame { s with cs.phase := p }
  obtain ⟨lp, hn⟩ := placeNotice_frame (drivePattern { s with cs.phase := p }) supervisorNode
    (.phase s.cs.phase p c (batchNumber (drivePattern { s with cs.phase := p })) (drivePattern { s with cs.phase := p }).cs.batchList.length)
  refine ⟨lp, { s.tu with pwm := w }, { s.cs with phase := p, outputs := o }, ?_⟩
  show placeNotice (drivePattern { s with cs.phase := p }) supervisorNode _ = _
  rw [hn, h]

theorem enterSealing_frame (s : State) (c : PhaseCause) :
    ∃ (lp : LinePort) (tu : TimerUnit) (cs : Chamber), enterSealing s c = { s with lp := lp, tu := tu, cs := cs } := by
  obtain ⟨lp, tu, cs, h⟩ := enterPhase_frame (startPhase s s.cs.working.sealTimeout) .sealing c
  unfold enterSealing
  dsimp only
  rw [h]
  split
  · obtain ⟨lp', tu', cs', h'⟩ := enterPhase_frame (startPhase { { startPhase s s.cs.working.sealTimeout with lp := lp, tu := tu, cs := cs } with
      cs.purgeMinDone := false } cs.working.purgeMin) .purging .doorClosed
    exact ⟨lp', tu', cs', h'⟩
  · exact ⟨lp, tu, cs, rfl⟩

/-- A selection attempt changes the notices, the timers, the chamber and the gates alone. -/
theorem selectionAttempt_frame (s : State) :
    ∃ (lp : LinePort) (tu : TimerUnit) (cs : Chamber) (g : GateTab GateEntry),
      selectionAttempt s = { s with lp := lp, tu := tu, cs := cs, zu.gates := g } := by
  have hclose : ∀ c, ∃ (lp : LinePort) (tu : TimerUnit) (cs : Chamber) (g : GateTab GateEntry),
      closeLoading s c = { s with lp := lp, tu := tu, cs := cs, zu.gates := g } := by
    intro c
    obtain ⟨lp, tu, cs, h⟩ := enterSealing_frame { s with tu.load := chStopped } c
    exact ⟨lp, tu, cs, s.zu.gates, h⟩
  have hsame : ∃ (lp : LinePort) (tu : TimerUnit) (cs : Chamber) (g : GateTab GateEntry),
      s = { s with lp := lp, tu := tu, cs := cs, zu.gates := g } := ⟨s.lp, s.tu, s.cs, s.zu.gates, rfl⟩
  unfold selectionAttempt
  split
  · split
    · exact hclose _
    · split
      · rename_i t _
        rcases admit_cases s t with h | ⟨-, -, -, -, h⟩
        · rw [h]
          exact hsame
        · rw [h]
          exact ⟨s.lp, _, s.cs, _, rfl⟩
      · split
        · exact hclose _
        · exact hsame
  · exact hsame

theorem lastHoldCleared_stations (s : State) (t : Tag) : (lastHoldCleared s t).stations = s.stations := by
  unfold lastHoldCleared
  split
  · rfl
  · split
    · rfl
    · split
      · exact routingAttempt_stations s
      · split
        · obtain ⟨lp, tu, cs, g, h⟩ := selectionAttempt_frame s
          rw [h]
        · rfl

theorem clearHold_stations (s : State) (t : Tag) (h : HoldReason) : (clearHold s t h).stations = s.stations :=
  lastHoldCleared_stations (removeHold s t h) t

/-! ### New records -/

/-- A record added under a tag that was not in the table is the one its tag finds. -/
theorem lookup_added {u : State} {r : Record} (hr : u.records = s.records ++ [r]) (hnew : lookup s r.tag = none)
    (hres : reservedTag r.tag = false) : lookup u r.tag = some r := by
  unfold lookup at hnew ⊢
  rw [hres, if_neg Bool.false_ne_true] at hnew ⊢
  rw [hr, List.find?_append, hnew]
  simp

/-- The record a Reclaim creates, field by field (R205). -/
theorem reclaimedRecord_eq {c : NewCabinet} (hd : c.dwellOverride = none) (n : Node) (done : Bool) (now : Clock) :
    reclaimedRecord c n done now =
      { tag := c.tag, enrolledClass := c.cls, cls := c.cls, foamClass := c.foamClass, foamWeight := c.foamWeight
        declaredCharge := c.declaredCharge
        stage := if c.cls = .n ∨ done = true then .done1 else .claimed
        station := some n, vessel := none, transfers := 0, recovered := 0
        verdict := if c.cls = .n then .empty else if done = true then .unmeasured else .none
        dwellOverride := none, holds := [], reevacUsed := 0, skipCount := 0, enrolStamp := now
        routeStamp := none
        done1Stamp := if c.cls = .n ∨ done = true then some now else none
        batch := none, foamShare := none } := by
  unfold reclaimedRecord newRecord
  dsimp only
  rw [hd]
  by_cases h1 : c.cls = .n
  · simp only [h1, if_true, true_or]
  · cases done
    · simp [h1]
    · simp [h1]

theorem checkCabinet_dwell {tag : Tag} {a b : Nat} {w : WeightCharge} {c : NewCabinet} (h : checkCabinet tag a b w none = some c) :
    c.dwellOverride = none := by
  unfold checkCabinet at h
  split at h
  · cases h
  · split at h
    · cases h
    · split at h
      · cases h
        rfl
      · cases h

/-! ### Holds raised -/

/-- A hold raised on a record that does not wait for an inlet joins its hold set. -/
theorem raiseHold_new {t : Tag} {r : Record} {h : HoldReason} {k : Nat} (hr : lookup s t = some r) (hc : carries r h = false)
    (hst : r.stage ≠ .waitInlet) :
    lookup (raiseHold s t h k) t = some { r with holds := r.holds ++ [⟨h, k, s.clock⟩] } := by
  have hw : withdrawInlet s t = s := by
    unfold withdrawInlet
    rw [hr]
    exact if_neg hst
  unfold raiseHold
  rw [if_pos (isNewHold_iff.mpr ⟨r, hr, hc⟩), hw, addHold_new hr hc]
  obtain ⟨lp, hp⟩ := placeNotice_frame (putHold s t h k) supervisorNode
    (.holdRaised t h k r.stage (placeOf s t) (holdMarks { r with holds := r.holds ++ [⟨h, k, s.clock⟩] }))
  rw [Option.getD_none, hp]
  exact lookup_updRecord_some (g := fun r => { r with holds := r.holds ++ [⟨h, k, s.clock⟩] }) hr fun _ => rfl

theorem tagStage_of {t : Tag} {r : Record} (h : lookup s t = some r) : tagStage s t = r.stage := by
  unfold tagStage
  rw [h]
  rfl

theorem tagCarries_of {t : Tag} {r : Record} (h : lookup s t = some r) (x : HoldReason) : tagCarries s t x = carries r x := by
  unfold tagCarries
  rw [h]
  rfl

/-! ### Reclaim -/

/-- A Reclaim of a record that stands at the sender's position (R66). -/
theorem reclaimBody_own {r : Record} (hl : s.line.state ≠ .config) (hr : lookup s f.fields.tag = some r) (hst : r.station = some n) :
    reclaimBody n f s =
      reclaimReply (judgeCoverage (if carries r .stationLost then clearHold s f.fields.tag .stationLost else s) n f.fields.tag r.cls)
        f.fields.tag := by
  unfold reclaimBody
  rw [if_neg hl, hr]
  dsimp only
  rw [if_neg (fun h => h hst), (lookup_some hr).2.1]

theorem reclaimBody_new (hl : s.line.state = .reconcile) (hr : lookup s f.fields.tag = none) :
    reclaimBody n f s = reclaimCreate n f s := by
  unfold reclaimBody
  rw [if_neg (by rw [hl]; decide), hr]
  exact if_pos hl

/-- What a Reclaim reads of the cabinet its frame carries (R205). -/
def readCabinet (f : Frame) : Option NewCabinet :=
  f.fields.cabinet.bind fun w => checkCabinet f.fields.tag w.classCode w.foamCode w.charge none

theorem reclaimCreate_none (h : readCabinet f = none) : reclaimCreate n f s = refuse s .badValue := by
  unfold reclaimCreate
  unfold readCabinet at h
  cases hc : f.fields.cabinet with
  | none => rfl
  | some w =>
    rw [hc] at h
    show (match checkCabinet f.fields.tag w.classCode w.foamCode w.charge none with
      | none => refuse s .badValue
      | some c => _) = _
    rw [show checkCabinet f.fields.tag w.classCode w.foamCode w.charge none = none from h]

theorem reclaimCreate_some {c : NewCabinet} (h : readCabinet f = some c) :
    reclaimCreate n f s = if s.stations[n].claim.isSome then refuse s .busy
      else reclaimReply (judgeCoverage (addRecord s (reclaimedRecord c n f.fields.doneMark s.clock) (.station n)) n c.tag c.cls) c.tag := by
  unfold reclaimCreate
  unfold readCabinet at h
  cases hc : f.fields.cabinet with
  | none => rw [hc] at h; cases h
  | some w =>
    rw [hc] at h
    dsimp only
    rw [show checkCabinet f.fields.tag w.classCode w.foamCode w.charge none = some c from h]

theorem readCabinet_some {c : NewCabinet} (h : readCabinet f = some c) :
    c.tag = f.fields.tag ∧ reservedTag c.tag = false ∧ c.dwellOverride = none := by
  obtain ⟨w, -, hw⟩ := Option.bind_eq_some_iff.mp h
  obtain ⟨h1, h2, -⟩ := checkCabinet_some hw
  exact ⟨h1, h1 ▸ h2, checkCabinet_dwell hw⟩

/-! ### Class Found -/

section
variable {c : Class} {r : Record} (hl : s.line.state ≠ .config) (hc : foundClass f.fields.classCode = some c)
  (hr : lookup s f.fields.tag = some r)
include hl hc hr

theorem classFoundBody_found : classFoundBody n f s =
    if ownsClaim s n f.fields.tag = false then refuse s .notPermitted
    else if r.stage ≠ .claimed ∨ r.transfers ≠ 0 then refuse s .badStage
    else if (boundVessel s f.fields.tag).isSome then refuse s .busy
    else answerDone (takeFinding s n f.fields.tag c)
      (.classFound c (tagStage (takeFinding s n f.fields.tag c) f.fields.tag)
        (tagCarries (takeFinding s n f.fields.tag c) f.fields.tag .classConflict)) := by
  unfold classFoundBody
  dsimp only
  rw [if_neg hl, hc]
  dsimp only
  rw [hr]
  simp only [Bool.not_eq_true']

end

theorem foundClass_of {m : Nat} {c : Class} (h : classOfCode m = some c) : foundClass m = if c = .u then none else some c := by
  unfold foundClass
  rw [h]
  cases c <;> rfl

theorem foundClass_none {m : Nat} (h : 3 ≤ m) : foundClass m = none := by
  match m, h with
  | 3, _ => rfl
  | m + 4, _ => rfl

theorem classFoundBody_badClass (hl : s.line.state ≠ .config) (hc : foundClass f.fields.classCode = none) :
    classFoundBody n f s = refuse s .badValue := by
  unfold classFoundBody
  dsimp only
  rw [if_neg hl, hc]

/-- What a finding does, on a record that its tag finds (R68). -/
theorem takeFinding_eq {t : Tag} {c : Class} {r : Record} (hr : lookup s t = some r) :
    takeFinding s n t c =
      (let v := { s with records := s.records.map fun x => if x.tag = t then { x with cls := c } else x }
       if covers s.stations[n].granted c = true then
         let v := if carries r .classConflict = true then clearHold v t .classConflict else v
         if c = .n then enterDone1Empty v t else v
       else raiseHold v t .classConflict 0) := by
  have hcar : tagCarries (updRecord s t fun r => { r with cls := c }) t .classConflict = carries r .classConflict :=
    tagCarries_of (lookup_updRecord_some (g := fun r => { r with cls := c }) hr fun _ => rfl) _
  unfold takeFinding
  dsimp only
  rw [hcar, updRecord_eq]

/-- Settles O12: a Reclaim finds its record or creates one; a finding is taken after its checks. -/
theorem reclaimAndClassFound : Obligations.ReclaimAndClassFound := by
  refine ⟨⟨fun s n f rest h hl => ⟨fun r hr => ⟨fun hst => ?_, fun hst => ⟨_, rfl, ?_⟩⟩, fun hr hl' => ?_⟩,
      fun s n f rest read h hl hr hread => ?_⟩,
    fun s n f rest h hl hc => ?_, fun s n f rest c r h hl hc hr => ?_, fun s t => ?_⟩
  · refine exec_station_refused h ?_
    show reclaimBody n f (popped s rest) = _
    unfold reclaimBody
    rw [if_neg (show (popped s rest).line.state ≠ .config from hl), lookup_popped, hr]
    exact if_pos hst
  · refine exec_station_done h ((reclaimBody_own (s := popped s rest) hl hr hst).trans ?_)
    unfold judgeCoverage
    have hst' : (if carries r .stationLost = true then clearHold (popped s rest) f.fields.tag .stationLost else popped s rest).stations
        = s.stations := by
      split
      · exact clearHold_stations _ _ _
      · rfl
    rw [hst']
    rfl
  · refine exec_station_refused h ?_
    show reclaimBody n f (popped s rest) = _
    unfold reclaimBody
    rw [if_neg (show (popped s rest).line.state ≠ .config from hl), lookup_popped, hr]
    exact if_neg hl'
  · have hread' : read = readCabinet f := hread
    subst hread'
    have hbody : bodyOf .reclaim (.station n) f (popped s rest) = reclaimCreate n f (popped s rest) := reclaimBody_new (s := popped s rest) hl hr
    refine ⟨fun hno => exec_station_refused h (hbody.trans (reclaimCreate_none hno)), fun hsome hc => ?_, fun c hsome hc => ?_⟩
    · obtain ⟨c, hsome⟩ := Option.ne_none_iff_exists'.mp hsome
      exact exec_station_refused h (hbody.trans ((reclaimCreate_some hsome).trans (if_pos (Option.isSome_iff_ne_none.mpr hc))))
    · obtain ⟨htag, hres, hd⟩ := readCabinet_some hsome
      refine ⟨_, _, rfl, rfl, ?_⟩
      rw [← reclaimedRecord_eq hd n f.fields.doneMark s.clock]
      obtain ⟨hrtag, -, hholds, -⟩ := reclaimedRecord_keeps c n f.fields.doneMark s.clock
      have hstage : (reclaimedRecord c n f.fields.doneMark s.clock).stage ≠ .waitInlet := by
        rw [reclaimedRecord_eq hd]
        dsimp only
        split
        · decide
        · decide
      have hcreate := (hbody.trans (reclaimCreate_some hsome)).trans (if_neg (by
        rw [show (popped s rest).stations[n].claim = none from hc]; decide))
      have hclock : (popped s rest).clock = s.clock := rfl
      rw [hclock] at hcreate
      generalize reclaimedRecord c n f.fields.doneMark s.clock = r at hcreate hrtag hholds hstage
      have hu : addRecord (popped s rest) r (.station n) = { popped s rest with
          records := s.records ++ [r]
          stations := s.stations.set n { s.stations[n] with claim := some c.tag } } := by rw [← hrtag]; rfl
      have hnew : lookup (popped s rest) r.tag = none := by rw [hrtag, htag]; exact hr
      have hfind : lookup (addRecord (popped s rest) r (.station n)) c.tag = some r := by
        rw [← hrtag]
        exact lookup_added (s := popped s rest) rfl hnew (hrtag ▸ hres)
      have hcov : (addRecord (popped s rest) r (.station n)).stations[n].granted = s.stations[n].granted := by
        rw [hu]
        have hset := congrArg StationEntry.granted (get_set_fin s.stations n { s.stations[n] with claim := some c.tag })
        exact hset
      have hfree : carries r .classConflict = false := by rw [carries, hholds]; rfl
      rw [judgeCoverage, hcov] at hcreate
      rw [← hu]
      by_cases hcv : covers s.stations[n].granted c.cls = true
      · rw [if_pos hcv]
        rw [if_pos hcv, reclaimReply, tagStage_of hfind, tagCarries_of hfind, hfree] at hcreate
        exact exec_station_done h hcreate
      · have hraised := raiseHold_new (k := 0) hfind hfree hstage
        rw [if_neg hcv]
        rw [if_neg hcv, reclaimReply, tagStage_of hraised, tagCarries_of hraised] at hcreate
        refine exec_station_done h (hcreate.trans ?_)
        rw [carries, hholds]
        rfl
  · exact exec_station_refused h (classFoundBody_badClass (s := popped s rest) hl (foundClass_none hc))
  · have hfound := foundClass_of hc
    refine ⟨fun hu => ?_, fun hu hcl => ?_, fun hu hcl hst => ?_, fun hu hcl h1 h2 hb => ?_, fun hu hcl h1 h2 hb => ⟨_, rfl, ?_⟩⟩
    · rw [if_pos hu] at hfound
      exact exec_station_refused h (classFoundBody_badClass (s := popped s rest) hl hfound)
    · rw [if_neg hu] at hfound
      exact exec_station_refused h ((classFoundBody_found (s := popped s rest) hl hfound hr).trans (if_pos (ownsClaim_false (s := popped s rest) hcl)))
    · rw [if_neg hu] at hfound
      exact exec_station_refused h ((classFoundBody_found (s := popped s rest) hl hfound hr).trans
        ((if_neg (ownsClaim_true (s := popped s rest) hcl)).trans (if_pos hst)))
    · rw [if_neg hu] at hfound
      exact exec_station_refused h ((classFoundBody_found (s := popped s rest) hl hfound hr).trans
        ((if_neg (ownsClaim_true (s := popped s rest) hcl)).trans ((if_neg (by simp [h1, h2])).trans
          (if_pos (Option.isSome_iff_ne_none.mpr hb)))))
    · rw [if_neg hu] at hfound
      have hb' : boundVessel (popped s rest) f.fields.tag = none := hb
      refine exec_station_done h ((classFoundBody_found (s := popped s rest) hl hfound hr).trans
        ((if_neg (ownsClaim_true (s := popped s rest) hcl)).trans ((if_neg (by simp [h1, h2])).trans
          ((if_neg (by rw [hb']; decide)).trans ?_))))
      rw [takeFinding_eq (s := popped s rest) hr]
      rfl
  · unfold enterDone1Empty
    rw [updRecord_eq]

end Sys2Proof.Machine
end

section
/-!
Enrol (1.3); Inlet Request and Re-evacuate (5.2, 5.6); Pressure (5.4).
-/

namespace Sys2Proof.Machine

variable {s t : State} {f : Frame} {rest : List Frame} {k : ReqKind} {n : Node}

/-! ### Enrol -/

theorem clampNat_eq {lo hi : Nat} (h : lo ≤ hi) (v : Nat) : clampNat lo hi v = max lo (min v hi) := by
  unfold clampNat clampInt
  split
  · omega
  · split <;> omega

theorem reservedTag_iff {t : Tag} : reservedTag t = true ↔ t = 0 ∨ t = BitVec.allOnes 32 := by
  simp only [reservedTag, Bool.or_eq_true, beq_iff_eq]

theorem classOfCode_none_iff {m : Nat} : classOfCode m = none ↔ 4 ≤ m := by
  match m with
  | 0 | 1 | 2 | 3 => simp [classOfCode]
  | m + 4 => simp [classOfCode]

theorem foamOfCode_none_iff {m : Nat} : foamOfCode m = none ↔ m = 2 ∨ 4 ≤ m := by
  match m with
  | 0 | 1 | 2 | 3 => simp [foamOfCode]
  | m + 4 => simp [foamOfCode]

theorem classCode_of {m : Nat} {c : Class} (h : classOfCode m = some c) : classCode c = m := by
  unfold classOfCode at h
  split at h <;> cases h <;> rfl

theorem foamCode_of {m : Nat} {c : FoamClass} (h : foamOfCode m = some c) : foamCode c = m := by
  unfold foamOfCode at h
  split at h <;> cases h <;> rfl

/-- The checks of R14, one after the other. -/
theorem checkCabinet_eq (tag : Tag) (a b : Nat) (w : WeightCharge) (d : Option Nat) : checkCabinet tag a b w d =
    if reservedTag tag = true ∨ (w.declaredPresent = true ∧ (w.declared = 0 ∨ 2000 < w.declared)) then none
    else (classOfCode a).bind fun c => (foamOfCode b).map fun fm =>
      { tag := tag, cls := c, foamClass := fm, foamWeight := clampNat 1 30 w.foamWeight
        declaredCharge := if w.declaredPresent then some w.declared else none
        dwellOverride := d.map fun d => clampNat 10 600 d } := by
  unfold checkCabinet
  by_cases h1 : reservedTag tag = true
  · rw [if_pos h1, if_pos (.inl h1)]
  · by_cases h2 : w.declaredPresent = true ∧ (w.declared = 0 ∨ 2000 < w.declared)
    · have h3 : (w.declaredPresent && (w.declared == 0 || decide (2000 < w.declared))) = true := by simpa using h2
      rw [if_neg h1, if_pos h3, if_pos (.inr h2)]
    · have h3 : ¬ (w.declaredPresent && (w.declared == 0 || decide (2000 < w.declared))) = true := by simpa using h2
      have h4 : ¬ (reservedTag tag = true ∨ (w.declaredPresent = true ∧ (w.declared = 0 ∨ 2000 < w.declared))) := fun h => h.elim h1 h2
      rw [if_neg h1, if_neg h3, if_neg h4]
      cases classOfCode a with
      | none => rfl
      | some c => cases foamOfCode b <;> rfl

/-- The sender of a request answered to a node, and what each of the two bodies' outcomes is to it. -/
theorem exec_sender {who : Sender} {dest : Nat}
    (h : (who = .supervisor ∧ dest = 14 ∧ FromSupervisor s k f rest) ∨ (∃ n, who = .station n ∧ dest = nodeNumber n ∧ FromStation s k n f rest)) :
    (∀ t r, bodyOf k who f (popped s rest) = answerDone t r → exec (requestCommand k) s = .next (answeredWith t (doneFrame dest k.code r)))
    ∧ (∀ r, bodyOf k who f (popped s rest) = refuse (popped s rest) r →
        exec (requestCommand k) s = .next (answeredWith (popped s rest) (refusedFrame dest k.code r))) := by
  rcases h with ⟨rfl, rfl, h⟩ | ⟨n, rfl, rfl, h⟩
  · exact ⟨fun _ _ => exec_supervisor_done h, fun _ => exec_supervisor_refused h⟩
  · exact ⟨fun _ _ => exec_station_done h, fun _ => exec_station_refused h⟩

section
variable {who : Sender} (hmay : mayEnrol who s.line.state = true)
include hmay

theorem enrolBody_badValue (h : enrolCabinet f = none) : enrolBody who f s = refuse s .badValue := by
  unfold enrolBody
  rw [hmay, h]
  rfl

theorem enrolBody_read {c : NewCabinet} (h : enrolCabinet f = some c) : enrolBody who f s =
    if (lookup s c.tag).isSome then refuse s .duplicateTag
    else if hasFreePlace s .intake = false then refuse s .zoneFull
    else answerDone (if s.zu.intake.isEmpty then routingAttempt (addRecord s (newRecord c s.clock) .intake)
        else addRecord s (newRecord c s.clock) .intake)
      (.enrolled (s.zu.intake.length + 1) (s.records.length + 1)) := by
  unfold enrolBody
  rw [hmay, h]
  simp [addRecord, putTail]

end

/-- Settles O13: an Enrol's checks in their order, and the record it creates. -/
theorem enrolCreatesRecord : Obligations.EnrolCreatesRecord := by
  refine ⟨fun s f rest => ⟨fun n h h1 h2 => ?_, fun h h1 => ?_⟩, fun s f rest dest h => ?_, fun tag a b w m has d => ⟨?_, fun c h => ?_⟩,
    fun f tag a b q w m h => ?_, fun s t => ?_⟩
  · exact exec_station_refused h (if_pos (by simp [mayEnrol, h1, h2]))
  · exact exec_supervisor_refused h (if_pos (by simp [mayEnrol, h1]))
  · obtain ⟨who, hmay, hdone, hrefused⟩ : ∃ who, mayEnrol who s.line.state = true
        ∧ (∀ t r, bodyOf .enrol who f (popped s rest) = answerDone t r → exec .enrol s = .next (answeredWith t (doneFrame dest 0x14 r)))
        ∧ (∀ r, bodyOf .enrol who f (popped s rest) = refuse (popped s rest) r →
            exec .enrol s = .next (answeredWith (popped s rest) (refusedFrame dest 0x14 r))) := by
      rcases h with ⟨hd, h, hl⟩ | ⟨n, hd, h, hl⟩
      · exact ⟨.supervisor, by simp [mayEnrol, hl], exec_sender (.inl ⟨rfl, hd, h⟩)⟩
      · exact ⟨.station n, by simpa [mayEnrol] using hl, exec_sender (.inr ⟨n, rfl, hd, h⟩)⟩
    refine ⟨fun hno => hrefused _ (enrolBody_badValue (s := popped s rest) hmay hno), fun c hc => ?_⟩
    have hbody := enrolBody_read (s := popped s rest) hmay hc
    have hroom : hasFreePlace (popped s rest) .intake = decide (s.zu.intake.length < s.cfg.capIntake) := rfl
    refine ⟨fun hdup => hrefused _ (hbody.trans (if_pos (Option.isSome_iff_ne_none.mpr hdup))), fun hnew hfull => ?_, fun hnew hfree => ?_⟩
    · refine hrefused _ (hbody.trans ((if_neg (by simp [hnew])).trans (if_pos ?_)))
      rw [hroom]
      exact decide_eq_false (Nat.not_lt.mpr hfull)
    · refine ⟨_, rfl, hdone _ _ (hbody.trans ((if_neg (by simp [hnew])).trans ((if_neg ?_).trans ?_)))⟩
      · rw [hroom]
        simpa using hfree
      · simp only [List.isEmpty_iff]
        rfl
  · rw [checkCabinet_eq, ite_eq_left_iff]
    simp only [reservedTag_iff, Option.bind_eq_none_iff, Option.map_eq_none_iff, foamOfCode_none_iff, ← classOfCode_none_iff (m := a)]
    cases classOfCode a with
    | none => simp
    | some c =>
      simp only [Option.some.injEq, forall_eq', reduceCtorEq, false_or]
      tauto
  · rw [checkCabinet_eq] at h
    split at h
    · cases h
    · obtain ⟨x, hx, h⟩ := Option.bind_eq_some_iff.mp h
      obtain ⟨y, hy, h⟩ := Option.map_eq_some_iff.mp h
      subst h
      refine ⟨rfl, classCode_of hx, foamCode_of hy, clampNat_eq (by decide) w, rfl, ?_⟩
      cases d with
      | none => rfl
      | some d => exact congrArg some (clampNat_eq (by decide) d)
  · unfold enrolCabinet
    rw [h]
  · unfold lookup
    simp only [reservedTag_iff]
    rfl

/-! ### Inlet Request and Re-evacuate -/

@[simp] theorem streamOf_classOfStream (c : Stream) : streamOf (classOfStream c) = some c := by
  cases c <;> rfl

/-- A record queued: its stage, its entry at the tail of its class queue, and the position it has there (R89, R99). -/
theorem queueInlet_eq (s : State) (n : Node) (t : Tag) (c : Stream) : queueInlet s n t c =
    (grantAttempt { updRecord s t fun x => { x with stage := .waitInlet } with
        vu := match c with
          | .h => { s.vu with inqH := s.vu.inqH ++ [⟨n, t⟩] }
          | .f => { s.vu with inqF := s.vu.inqF ++ [⟨n, t⟩] } } c,
      replyQueued (.inlet c ((inletQueue s c).length + 1))) := by
  unfold queueInlet setStage
  cases c <;> simp [joinQueue, setInletQueue, inletQueue, updRecord]

/-- A station's request whose body is answered QUEUED. -/
theorem exec_station_queued (h : FromStation s k n f rest) {r : Result}
    (hb : bodyOf k (.station n) f (popped s rest) = (t, replyQueued r)) :
    exec (requestCommand k) s = .next (answeredWith t (queuedFrame (nodeNumber n) k.code r)) := by
  rw [exec_of_station h, hb]
  rfl

section
variable {r : Record} (hrun : s.line.state = .run) (hr : lookup s f.fields.tag = some r)
include hrun hr

theorem inletRequestBody_notOwn (h : s.stations[n].claim ≠ some f.fields.tag) : inletRequestBody n f s = refuse s .notPermitted := by
  simp [inletRequestBody, hrun, hr, ownsClaim_false h]

theorem reEvacuateBody_notOwn (h : s.stations[n].claim ≠ some f.fields.tag) : reEvacuateBody n f s = refuse s .notPermitted := by
  simp [reEvacuateBody, hrun, hr, ownsClaim_false h]

/-- The checks of an Inlet Request of the sender's own record (R89). -/
theorem inletRequestBody_own (h : s.stations[n].claim = some f.fields.tag) : inletRequestBody n f s =
    if r.stage ≠ .claimed then refuse s .badStage
    else if isHeld r then refuse s .notEligible
    else match streamOf r.cls with
      | none => refuse s .notEligible
      | some c => if (boundVessel s f.fields.tag).isSome then refuse s .busy else queueInlet s n f.fields.tag c := by
  have hown : ownsClaim s n f.fields.tag = true := by simpa using ownsClaim_true h
  simp only [inletRequestBody, hrun, hr, hown]
  rfl

/-- The checks of a Re-evacuate of the sender's own record, but for the class (R99). -/
theorem reEvacuateBody_own {c : Stream} (h : s.stations[n].claim = some f.fields.tag) (hc : streamOf r.cls = some c) :
    reEvacuateBody n f s =
    if r.stage ≠ .vacuumHold ∧ r.stage ≠ .claimed then refuse s .badStage
    else if carries r .leak = false then refuse s .badStage
    else if r.holds.any (·.reason != .leak) then refuse s .notEligible
    else if (boundVessel s f.fields.tag).isSome then refuse s .busy
    else if s.cfg.reevacMax ≤ r.reevacUsed then refuse s .notPermitted
    else queueInlet (clearHold (updRecord s f.fields.tag fun r => { r with reevacUsed := r.reevacUsed + 1 }) f.fields.tag .leak)
      n f.fields.tag c := by
  have hown : ownsClaim s n f.fields.tag = true := by simpa using ownsClaim_true h
  simp only [reEvacuateBody, hrun, hr, hown, hc, Bool.not_eq_true']
  rfl

/-- The refusals of a Re-evacuate that come before the count (R99). -/
theorem reEvacuateBody_early {why : Reason} (h : s.stations[n].claim = some f.fields.tag)
    (hw : (if r.stage ≠ .vacuumHold ∧ r.stage ≠ .claimed then some Reason.badStage
      else if carries r .leak = false then some .badStage
      else if r.holds.any (·.reason != .leak) then some .notEligible
      else if (boundVessel s f.fields.tag).isSome then some .busy else none) = some why) :
    reEvacuateBody n f s = refuse s why := by
  unfold reEvacuateBody
  dsimp only
  rw [if_neg (fun h => h hrun), hr]
  simp only [Bool.not_eq_true', if_neg (ownsClaim_true h)]
  split at hw
  · rw [if_pos ‹_›]
    cases hw
    rfl
  · rw [if_neg ‹_›]
    split at hw
    · rw [if_pos ‹_›]
      cases hw
      rfl
    · rw [if_neg ‹_›]
      split at hw
      · rw [if_pos ‹_›]
        cases hw
        rfl
      · rw [if_neg ‹_›]
        split at hw
        · rw [if_pos ‹_›]
          cases hw
          rfl
        · cases hw

end

theorem carries_iff {r : Record} {h : HoldReason} : carries r h = true ↔ ∃ e ∈ r.holds, e.reason = h := by
  simp [carries]

/-- The last hold of a record that stands in neither INTAKE nor BUFFER calls no owner (R183). -/
theorem clearHold_elsewhere {t : Tag} (h : HoldReason) (hi : t ∉ s.zu.intake) (hb : t ∉ s.zu.buffer) : clearHold s t h = removeHold s t h := by
  have hhead : s.zu.intake.head? ≠ some t := fun e => hi (List.mem_of_mem_head? e)
  unfold clearHold lastHoldCleared
  split
  · rfl
  · simp [hhead, hb]

/-- Settles O14: the checks of both requests in their order, and the entry that joins its queue. -/
theorem inletRequestAndReEvacuate : Obligations.InletRequestAndReEvacuate := by
  refine ⟨fun s n f rest hl => ⟨fun h => exec_station_refused h (if_pos hl), fun h => exec_station_refused h (if_pos hl)⟩,
    fun s n f rest r h hl hr => ⟨fun hc => ?_, fun hc => ?_⟩, fun s n f rest r refused hrefused h hl hr => ⟨fun hc => ?_, fun hc => ?_⟩,
    fun s n f rest r c e h hl hr hc hst hh he hb hcls => ⟨fun hmax => ?_, fun hmax hi hbuf => ?_⟩⟩
  · exact exec_station_refused h (inletRequestBody_notOwn (s := popped s rest) hl hr hc)
  · have hbody := inletRequestBody_own (s := popped s rest) hl hr hc
    refine ⟨fun hst => exec_station_refused h (hbody.trans (if_pos hst)), fun hst hno => ?_, fun hst hh hcls hb => ?_, fun c hst hh hcls hb => ?_⟩
    · refine exec_station_refused h (hbody.trans ((if_neg (fun h => h hst)).trans ?_))
      by_cases hh : isHeld r = true
      · exact if_pos hh
      · rw [if_neg hh]
        rcases hno with hno | hcls | hcls
        · exact absurd (isHeld_true_iff.mpr hno) hh
        · rw [hcls]
          rfl
        · rw [hcls]
          rfl
    · refine exec_station_refused h (hbody.trans ((if_neg (fun h => h hst)).trans ((if_neg (by simp [isHeld_false_iff.mpr hh])).trans ?_)))
      have hsome : (boundVessel (popped s rest) f.fields.tag).isSome = true := Option.isSome_iff_ne_none.mpr hb
      rcases hcls with hcls | hcls <;> rw [hcls] <;> exact if_pos hsome
    · refine exec_station_queued h (hbody.trans ((if_neg (fun h => h hst)).trans ((if_neg (by simp [isHeld_false_iff.mpr hh])).trans ?_)))
      have hnone : ¬ (boundVessel (popped s rest) f.fields.tag).isSome = true := by
        rw [show boundVessel (popped s rest) f.fields.tag = none from hb]
        decide
      rw [hcls, streamOf_classOfStream]
      refine (if_neg hnone).trans ((queueInlet_eq ..).trans ?_)
      rw [updRecord_eq]
      rfl
  · exact (hrefused _).mpr (exec_station_refused h (reEvacuateBody_notOwn (s := popped s rest) hl hr hc))
  · have early := fun why hw => (hrefused why).mpr (exec_station_refused h (reEvacuateBody_early (s := popped s rest) hl hr hc hw))
    refine ⟨fun h1 h2 => early _ (if_pos ⟨h1, h2⟩), fun hst => ?_⟩
    have hstage : ¬ (r.stage ≠ .vacuumHold ∧ r.stage ≠ .claimed) := fun h => hst.elim h.1 h.2
    refine ⟨fun hno => early _ ((if_neg hstage).trans (if_pos ?_)), fun hleak hother => early _ ?_, fun hleak honly hb => early _ ?_⟩
    · rw [Bool.eq_false_iff, ne_eq, carries_iff]
      rintro ⟨e, he, hr⟩
      exact hno e he hr
    · rw [if_neg hstage, if_neg (by rw [carries_iff.mpr hleak]; decide), if_pos]
      simpa using hother
    · rw [if_neg hstage, if_neg (by rw [carries_iff.mpr hleak]; decide), if_neg (by simpa using honly)]
      exact if_pos (Option.isSome_iff_ne_none.mpr hb)
  all_goals
    have hcar : carries r .leak = true := carries_iff.mpr ⟨e, by simp [hh], he⟩
    have hbody := reEvacuateBody_own (s := popped s rest) hl hr hc (hcls ▸ streamOf_classOfStream c)
    rw [if_neg (fun h => hst.elim h.1 h.2), hcar, if_neg (by decide), hh, if_neg (by simp [he]),
      show boundVessel (popped s rest) f.fields.tag = none from hb, if_neg (by decide)] at hbody
  · exact exec_station_refused h (hbody.trans (if_pos hmax))
  · refine exec_station_queued h (hbody.trans ((if_neg (Nat.not_le.mpr hmax)).trans ?_))
    have hclear := clearHold_elsewhere (s := updRecord (popped s rest) f.fields.tag fun r => { r with reevacUsed := r.reevacUsed + 1 })
      .leak hi hbuf
    rw [hclear, queueInlet_eq, removeHold,
      updRecord_updRecord (popped s rest) _ (g := fun r => { r with reevacUsed := r.reevacUsed + 1 }) _ fun _ => rfl,
      updRecord_updRecord (popped s rest) _
        (g := fun r => { r with reevacUsed := r.reevacUsed + 1, holds := r.holds.filter (·.reason != .leak) }) _ fun _ => rfl,
      updRecord_eq]
    rfl

/-! ### Pressure -/

/-- Settles O15: the limit of the value, and the report counted in HOLD_OPEN alone. -/
theorem pressureReportCounts : Obligations.PressureReportCounts := by
  intro s n f rest r h hr
  refine ⟨fun hc => exec_station_refused h ?_, fun hc => ⟨_, rfl, exec_station_done h ?_⟩⟩
  · show pressureBody n f (popped s rest) = _
    simp [pressureBody, hr, ownsClaim_false (s := popped s rest) hc]
  · show pressureBody n f (popped s rest) = _
    simp only [pressureBody, lookup_popped, hr, Bool.not_eq_true', if_neg (ownsClaim_true (s := popped s rest) hc)]
    have hcount : countReport s.progress[n] (clampPressure f.fields.pressure) s.clock = (if s.progress[n].state = .holdOpen then
        { s.progress[n] with
          baseline := match s.progress[n].baseline with
            | some b => some b
            | none => some (min f.fields.pressure 200000, s.clock)
          last := some (min f.fields.pressure 200000, s.clock)
          reports := min (s.progress[n].reports + 1) 65535 } else s.progress[n]) := by
      unfold countReport clampPressure
      cases s.progress[n].baseline <;> rfl
    have hstate : (takeReport (popped s rest) n (clampPressure f.fields.pressure)).progress[n].state = s.progress[n].state := by
      have hset := congrArg Progress.state (get_set_fin s.progress n (countReport s.progress[n] (clampPressure f.fields.pressure) s.clock))
      refine Eq.trans hset ?_
      unfold countReport
      split <;> rfl
    rw [hstate]
    exact congrArg (fun p => answerDone { popped s rest with
        stations := s.stations.set n { s.stations[n] with latestPressure := some (min f.fields.pressure 200000, s.clock) }
        progress := s.progress.set n p } (.pressure (min f.fields.pressure 200000) s.progress[n].state)) hcount

end Sys2Proof.Machine
end

section
/-!
Gates and selection: passages and passage timeouts (2.3, 2.6), routing (2.2), selection (9.4).
-/

namespace Sys2Proof.Machine

variable {s t : State} {f : Frame} {rest : List Frame} {k : ReqKind} {n : Node}

/-! ### Routing -/

/-- The fold over the later lanes keeps a lane that none of them undercuts. -/
theorem foldl_fewerRecords_keep {l : Lane} {ls : List Lane} (h : ∀ y ∈ ls, (s.zu.lanes.get l).length ≤ (s.zu.lanes.get y).length) :
    ls.foldl (fewerRecords s) l = l := by
  induction ls with
  | nil => rfl
  | cons y ls ih =>
    have hy := h y List.mem_cons_self
    rw [List.foldl_cons, fewerRecords, if_neg (by omega)]
    exact ih fun z hz => h z (List.mem_cons_of_mem _ hz)

/-- The fold goes over to a lane with fewer records than every lane before it. -/
theorem foldl_fewerRecords_take {x l : Lane} {ps qs : List Lane} (hx : (s.zu.lanes.get l).length < (s.zu.lanes.get x).length)
    (hp : ∀ y ∈ ps, (s.zu.lanes.get l).length < (s.zu.lanes.get y).length)
    (hq : ∀ y ∈ qs, (s.zu.lanes.get l).length ≤ (s.zu.lanes.get y).length) :
    (ps ++ l :: qs).foldl (fewerRecords s) x = l := by
  induction ps generalizing x with
  | nil =>
    rw [List.nil_append, List.foldl_cons, fewerRecords, if_pos hx]
    exact foldl_fewerRecords_keep hq
  | cons y ps ih =>
    have hy := hp y List.mem_cons_self
    rw [List.cons_append, List.foldl_cons]
    refine ih ?_ fun z hz => hp z (List.mem_cons_of_mem _ hz)
    unfold fewerRecords
    split
    · exact hy
    · exact hx

/-- The chosen lane: fewer records than every candidate before it, no more than any after it (R30). -/
theorem chosenLane_of {c : Class} {l : Lane} {before after : List Lane} (h : allLanes = before ++ l :: after)
    (hl : laneCandidate s c l = true)
    (hb : ∀ m ∈ before, laneCandidate s c m = true → (s.zu.lanes.get l).length < (s.zu.lanes.get m).length)
    (ha : ∀ m ∈ after, laneCandidate s c m = true → (s.zu.lanes.get l).length ≤ (s.zu.lanes.get m).length) :
    chosenLane s c = some l := by
  have hb' : ∀ m ∈ before.filter (laneCandidate s c), (s.zu.lanes.get l).length < (s.zu.lanes.get m).length :=
    fun m hm => hb m (List.mem_filter.mp hm).1 (List.mem_filter.mp hm).2
  have ha' : ∀ m ∈ after.filter (laneCandidate s c), (s.zu.lanes.get l).length ≤ (s.zu.lanes.get m).length :=
    fun m hm => ha m (List.mem_filter.mp hm).1 (List.mem_filter.mp hm).2
  unfold chosenLane
  rw [h, List.filter_append, List.filter_cons_of_pos hl]
  cases hbs : before.filter (laneCandidate s c) with
  | nil => exact congrArg some (foldl_fewerRecords_keep ha')
  | cons x ps =>
    rw [hbs] at hb'
    exact congrArg some (foldl_fewerRecords_take (hb' x List.mem_cons_self) (fun y hy => hb' y (List.mem_cons_of_mem _ hy)) ha')

theorem chosenLane_none {c : Class} (h : ∀ l, laneCandidate s c l = false) : chosenLane s c = none := by
  simp [chosenLane, allLanes, h]

theorem noLaneReleased_iff : noLaneReleased s = true ↔ ∀ l : Lane, (s.zu.gates.get (.lane l)).state ≠ .released := by
  have hall : ∀ l : Lane, l ∈ allLanes := fun l => by cases l <;> decide
  simp only [noLaneReleased, List.all_eq_true, bne_iff_ne]
  exact ⟨fun h l => h l (hall l), fun h l _ => h l⟩

theorem ratingCovers_iff (x : Rating) (c : Class) : ratingCovers x c = true ↔ x = .hf ∨ (x = .h ∧ (c = .h ∨ c = .n)) := by
  cases x <;> cases c <;> decide

theorem laneCandidate_iff (s : State) (c : Class) (l : Lane) : laneCandidate s c l = true ↔
    (s.cfg.ratings.get l = .hf ∨ (s.cfg.ratings.get l = .h ∧ (c = .h ∨ c = .n)))
    ∧ (c = .u → ∃ n : Node, s.stations[n].state = .joined ∧ s.stations[n].lane = some l ∧ s.stations[n].granted.sniff = true)
    ∧ (s.zu.lanes.get l).length + (if (s.zu.gates.get (.lane l)).passing = none then 0 else 1) < s.cfg.capLanes.get l
    ∧ (s.zu.gates.get (.lane l)).state = .idle := by
  have hall : ∀ n : Node, n ∈ allNodes := by decide
  have hsniff : (c != .u || allNodes.any fun n => sniffsOn s.stations[n] l) = true ↔
      (c = .u → ∃ n : Node, s.stations[n].state = .joined ∧ s.stations[n].lane = some l ∧ s.stations[n].granted.sniff = true) := by
    simp only [Bool.or_eq_true, bne_iff_ne, List.any_eq_true, sniffsOn, Bool.and_eq_true, beq_iff_eq, and_assoc, ← imp_iff_not_or]
    exact ⟨fun h hc => (h hc).imp fun n hn => hn.2, fun h hc => (h hc).imp fun n hn => ⟨hall n, hn⟩⟩
  have hplace : hasFreePlace s (.lane l) = true ↔
      (s.zu.lanes.get l).length + (if (s.zu.gates.get (.lane l)).passing = none then 0 else 1) < s.cfg.capLanes.get l := by
    have hres : hasReserved s (.lane l) = (s.zu.gates.get (.lane l)).passing.isSome := rfl
    unfold hasFreePlace
    rw [hres, decide_eq_true_iff]
    cases (s.zu.gates.get (.lane l)).passing <;> rfl
  unfold laneCandidate
  rw [Bool.and_eq_true, Bool.and_eq_true, Bool.and_eq_true, ratingCovers_iff, hsniff, hplace, beq_iff_eq, and_assoc, and_assoc]

/-- The gate released, with its channel and its capture slot (R31, R86). -/
theorem releaseGate_eq (s : State) (g : Gate) (t : Tag) : releaseGate s g t = { s with
    zu.gates := s.zu.gates.set g ⟨.released, true, some t⟩
    tu.passage := s.tu.passage.set g (chStart (s.clock + sec s.cfg.passageTimeout))
    tu.slots := if s.tu.slots.get g = .broken then s.tu.slots.set g .standing else s.tu.slots } := rfl

/-- What makes a record the one a routing attempt routes (R29). -/
theorem routable_of {t : Tag} {more : List Tag} {r : Record} (hl : s.line.state = .run)
    (hg : ∀ m : Lane, (s.zu.gates.get (.lane m)).state ≠ .released) (hi : s.zu.intake = t :: more) (hr : lookup s t = some r)
    (hh : r.holds = []) : routable s = some r := by
  unfold routable
  rw [if_pos ⟨hl, noLaneReleased_iff.mpr hg⟩, hi]
  show (lookup s t).filter (fun r => !isHeld r) = some r
  rw [hr, Option.filter_some_pos (by rw [isHeld_false_iff.mpr hh]; rfl)]

/-- Settles O19: the attempt is decided by the head, the gates and the candidates; the choice is the first lane with fewest records. -/
theorem routingChoosesTheShortestLane : Obligations.RoutingChoosesTheShortestLane := by
  refine ⟨fun s => ⟨fun t more r l hl hg hi hr hh hc hmin => ?_, fun h => ?_⟩, laneCandidate_iff⟩
  · have hless : ∀ m, laneCandidate s r.cls m = true → ¬ (l = .a ∨ l = m ∨ (l = .b ∧ m = .c)) →
        (s.zu.lanes.get l).length < (s.zu.lanes.get m).length := fun m hm hno => (hmin m hm).resolve_right fun h => hno h.2
    have hle : ∀ m, laneCandidate s r.cls m = true → (s.zu.lanes.get l).length ≤ (s.zu.lanes.get m).length :=
      fun m hm => (hmin m hm).elim Nat.le_of_lt fun h => Nat.le_of_eq h.1
    have hlane : chosenLane s r.cls = some l := by
      cases l with
      | a => exact chosenLane_of (before := []) (after := [.b, .c]) rfl hc (by simp) fun m _ => hle m
      | b => exact chosenLane_of (before := [.a]) (after := [.c]) rfl hc (by simpa using fun h => hless .a h (by decide)) fun m _ => hle m
      | c =>
        exact chosenLane_of (before := [.a, .b]) (after := []) rfl hc
          (by simpa using ⟨fun h => hless .a h (by decide), fun h => hless .b h (by decide)⟩) (by simp)
    unfold routingAttempt
    rw [routable_of hl hg hi hr hh]
    dsimp only
    rw [hlane, (lookup_some hr).2.1]
    exact releaseGate_eq ..
  · rcases routingAttempt_cases s with hs | ⟨r, l, hr, hl, -⟩
    · exact hs
    · unfold routable at hr
      split at hr
      · rename_i hrun
        rcases h with h | ⟨m, h⟩ | h | ⟨t, more, r', hi, hr', h⟩
        · exact absurd hrun.1 h
        · exact absurd h (noLaneReleased_iff.mp hrun.2 m)
        · rw [h] at hr
          cases hr
        · rw [hi] at hr
          dsimp only at hr
          rw [hr'] at hr
          obtain ⟨hrr, hheld⟩ := Option.filter_eq_some_iff.mp hr
          cases hrr
          rcases h with h | h
          · rw [isHeld_true_iff.mpr h] at hheld
            cases hheld
          · rw [chosenLane_none h] at hl
            cases hl
      · cases hr

/-! ### Selection -/

theorem overdueWaits_false_iff : overdueWaits s = false ↔ ∀ e ∈ s.tu.passages, ¬ (e.gate = .feed ∧ e.overdue = true) := by
  simp [overdueWaits]

theorem hasFreePlace_chamber : hasFreePlace s .chamber = true ↔
    s.zu.chamber.length + (if s.zu.gates.feed.passing = none then 0 else 1) < 4 := by
  have hres : hasReserved s .chamber = s.zu.gates.feed.passing.isSome := rfl
  unfold hasFreePlace
  rw [hres, decide_eq_true_iff]
  cases s.zu.gates.feed.passing <;> rfl

theorem isCandidate_of {t : Tag} {r : Record} (h : lookup s t = some r) : isCandidate s t = true ↔ r.holds = [] ∧ r.verdict ≠ .none := by
  simp [isCandidate, h, isHeld]

theorem isBarred_of {t : Tag} {r : Record} (h : lookup s t = some r) :
    isBarred s t = true ↔ (r.foamClass = .f ∨ r.foamClass = .u) ∧ s.cs.ffCount = s.cs.working.fFoamMax := by
  simp only [isBarred, h, Option.any_some, Bool.and_eq_true, beq_iff_eq]
  cases r.foamClass <;> simp [countsAsF]

section
variable (hp : s.cs.phase = .loading) (hl : s.line.state = .run) (hg : s.zu.gates.feed.state = .idle)

/-- The skip rule does not apply where the first candidate is not barred, or has skips left, or the batch is empty (R161). -/
theorem skipRuleApplies_false {cands : List Tag} (hc : cands = candidates s)
    (h : ∀ x more y, cands = x :: more → isBarred s x = true → lookup s x = some y → y.skipCount ≠ 3 ∨ s.cs.batchList = []) :
    skipRuleApplies s = false := by
  rw [Bool.eq_false_iff]
  intro hskip
  unfold skipRuleApplies at hskip
  obtain ⟨hb, hany⟩ := Bool.and_eq_true_iff.mp hskip
  obtain ⟨x, hx, hbar⟩ := (Option.any_eq_true _ _).mp hany
  obtain ⟨hbar, hy⟩ := Bool.and_eq_true_iff.mp hbar
  obtain ⟨y, hy, hcount⟩ := (Option.any_eq_true _ _).mp hy
  obtain ⟨more, hm⟩ : ∃ more, candidates s = x :: more := by
    cases hcs : candidates s with
    | nil => rw [hcs] at hx; cases hx
    | cons z zs => rw [hcs] at hx; cases hx; exact ⟨zs, rfl⟩
  rcases h x more y (hc.trans hm) hbar hy with h | h
  · exact h (beq_iff_eq.mp hcount)
  · rw [h] at hb
    cases hb

include hp hl hg

/-- An attempt that the skip rule does not end (R161). -/
theorem selectionAttempt_loading (hskip : skipRuleApplies s = false) : selectionAttempt s =
    match (candidates s).find? fun t => !isBarred s t with
    | some t => admitRecord s t
    | none => if s.cs.loadExpired && !s.cs.batchList.isEmpty then closeLoading s .loadWait else s := by
  unfold selectionAttempt
  rw [if_pos ⟨hp, hl, hg⟩, hskip]
  rfl

omit hp in
/-- The admission of a candidate (R45). -/
theorem admitRecord_eq {t : Tag} (hb : t ∈ s.zu.buffer) (hc : isCandidate s t = true) : admitRecord s t =
    if s.zu.chamber.length + (if s.zu.gates.feed.passing = none then 0 else 1) < 4
        ∧ ∀ e ∈ s.tu.passages, ¬(e.gate = .feed ∧ e.overdue = true) then releaseGate s .feed t
    else s := by
  have hiff : (s.line.state = .run ∧ s.zu.gates.feed.state = .idle ∧ hasFreePlace s .chamber = true ∧ s.zu.buffer.contains t = true
      ∧ isCandidate s t = true ∧ overdueWaits s = false) ↔
      (s.zu.chamber.length + (if s.zu.gates.feed.passing = none then 0 else 1) < 4
        ∧ ∀ e ∈ s.tu.passages, ¬(e.gate = .feed ∧ e.overdue = true)) := by
    simp only [hl, hg, hc, List.contains_eq_mem, hb, decide_true, true_and, hasFreePlace_chamber, overdueWaits_false_iff]
  unfold admitRecord
  exact if_congr hiff rfl rfl

end

/-- Settles O20: the skip rule, the first candidate that is not barred, and the load wait. -/
theorem selectionChoosesTheNextRecord : Obligations.SelectionChoosesTheNextRecord := by
  refine ⟨fun s => ⟨fun h => ?_, fun hp hl hg cands hc => ⟨fun t more r ht hr hbar hcount hne => ?_, fun before after t ht hbar hall hskip => ?_,
    fun hall hskip => ?_⟩⟩, fun s t => ⟨fun r hr => ⟨isCandidate_of hr, isBarred_of hr⟩, fun hno => by simp [isCandidate, isBarred, hno]⟩⟩
  · unfold selectionAttempt
    rw [if_neg]
    rintro ⟨h1, h2, h3⟩
    rcases h with h | h | h
    · exact h h1
    · exact h h2
    · exact h h3
  · have hskip : skipRuleApplies s = true := by
      have hcs : candidates s = t :: more := hc.symm.trans ht
      unfold skipRuleApplies
      rw [hcs, Bool.and_eq_true]
      exact ⟨by simpa using hne, by simp [hbar, hr, hcount]⟩
    unfold selectionAttempt
    rw [if_pos ⟨hp, hl, hg⟩, if_pos hskip]
    rfl
  · have hno : skipRuleApplies s = false := by
      refine skipRuleApplies_false (ht ▸ hc) fun x more y hx hxb hy => ?_
      cases before with
      | nil =>
        cases hx
        rw [hbar] at hxb
        cases hxb
      | cons z zs =>
        cases hx
        exact hskip _ _ y rfl hy
    have hfind : (candidates s).find? (fun t => !isBarred s t) = some t := by
      have hcs : candidates s = before ++ t :: after := hc.symm.trans ht
      have hbefore : before.find? (fun t => !isBarred s t) = none :=
        List.find?_eq_none.mpr fun x hx => by rw [hall x hx]; decide
      rw [hcs, List.find?_append, hbefore, List.find?_cons_of_pos (by rw [hbar]; rfl)]
      rfl
    have hmem : t ∈ s.zu.buffer.filter (isCandidate s) := by
      rw [← hc, ht]
      exact List.mem_append_right _ List.mem_cons_self
    obtain ⟨hb, hcand⟩ := List.mem_filter.mp hmem
    rw [selectionAttempt_loading hp hl hg hno, hfind]
    exact admitRecord_eq hl hg hb hcand
  · have hno : skipRuleApplies s = false := skipRuleApplies_false hc fun x more y hx _ hy => hskip x more y hx hy
    have hfind : (candidates s).find? (fun t => !isBarred s t) = none :=
      List.find?_eq_none.mpr fun x hx => by rw [hall x (hc ▸ hx)]; decide
    rw [selectionAttempt_loading hp hl hg hno, hfind]
    refine if_congr ?_ rfl rfl
    simp

end Sys2Proof.Machine
end

section
/-!
Passages and passage timeouts at the lane gates and at FEED_GATE (2.3, 2.6, 9.4).
-/

namespace Sys2Proof.Machine

variable {s t : State} {f : Frame} {rest : List Frame} {k : ReqKind} {n : Node}

/-! ### A passage event -/

theorem expiryComesFirst_true {e : PassageEvent} {d : Clock} (h : (s.tu.passage.get e.gate).expiry = some d)
    (hr : reached e.delivered d = true) : expiryComesFirst s e = true := by
  simp [expiryComesFirst, h, hr]

theorem expiryComesFirst_false {e : PassageEvent}
    (h : ∀ d : Clock, (s.tu.passage.get e.gate).expiry = some d → reached e.delivered d = false) : expiryComesFirst s e = false := by
  cases hx : (s.tu.passage.get e.gate).expiry with
  | none => simp [expiryComesFirst, hx]
  | some d => simp [expiryComesFirst, hx, h d hx]

section
variable {g : Gate} {e : PassageEvent} (he : s.tu.passages.find? (·.gate == g) = some e)
include he

/-- The event waits behind an expiry that was delivered before it (R87). -/
theorem exec_passage_waits {d : Clock} (h : (s.tu.passage.get g).expiry = some d) (hr : reached e.delivered d = true) :
    exec (.passage g) s = .next s := by
  have hgate : e.gate = g := by simpa using List.find?_some he
  refine congrArg Host.Outcome.next ?_
  rw [show nextPassage s g = some e from he]
  exact if_pos (expiryComesFirst_true (hgate ▸ h) hr)

theorem exec_passage_taken (h : ∀ d : Clock, (s.tu.passage.get g).expiry = some d → reached e.delivered d = false) :
    exec (.passage g) s = .next (passageAt { s with tu.passages := s.tu.passages.erase e } g e.stamp) := by
  have hgate : e.gate = g := by simpa using List.find?_some he
  refine congrArg Host.Outcome.next ?_
  rw [show nextPassage s g = some e from he]
  exact if_neg (by rw [expiryComesFirst_false (hgate ▸ h)]; decide)

end

/-- A gate that is not RELEASED is BLOCKED by a passage (R35). -/
theorem passageAt_blocked (s : State) {g : Gate} (h : (s.zu.gates.get g).state ≠ .released) (stamp : Clock) :
    passageAt s g stamp = { s with zu.gates := s.zu.gates.set g ⟨.blocked, false, none⟩ } := by
  unfold passageAt
  dsimp only
  split
  · exact absurd ‹_› h
  · exact absurd ‹_› h
  · exact absurd ‹_› h
  · rfl

theorem passageAt_lane (s : State) {l : Lane} {t : Tag} (h : s.zu.gates.get (.lane l) = ⟨.released, true, some t⟩) (stamp : Clock) :
    passageAt s (.lane l) stamp = lanePassage s l t stamp := by
  unfold passageAt
  rw [h]

theorem passageAt_feed (s : State) {t : Tag} (h : s.zu.gates.get .feed = ⟨.released, true, some t⟩) (stamp : Clock) :
    passageAt s .feed stamp = feedPassage s t := by
  unfold passageAt
  rw [h]

/-! ### A passage timeout -/

section
variable {g : Gate} {d : Clock} (hd : (s.tu.passage.get g).expiry = some d) {u : State}
  (hu : u = { s with tu.passage := s.tu.passage.set g ⟨.idle, none⟩, zu.gates := s.zu.gates.set g ⟨.idle, false, none⟩ })
include hu

theorem gateToIdle_taken : gateToIdle (setPassage s g { s.tu.passage.get g with expiry := none }) g = u := by
  rw [hu]
  simp only [gateToIdle, setPassage, setGate, GateTab.set_set]
  rfl

include hd

/-- The expiry of a RELEASED lane gate's passage channel (R34). -/
theorem exec_laneTimeout {t : Tag} {l : Lane} (hg : s.zu.gates.get g = ⟨.released, true, some t⟩) (hl : g = .lane l) :
    exec (.passageTimeout g) s = .next (routingAttempt (raiseHold u t .jam 0)) := by
  refine congrArg Host.Outcome.next ?_
  rw [chDue_of_expiry hd]
  show passageTimedOut (setPassage s g { s.tu.passage.get g with expiry := none }) g = _
  unfold passageTimedOut
  dsimp only
  rw [gateToIdle_taken hu, setPassage, hg, hl]

/-- The expiry of the RELEASED FEED_GATE's passage channel (R47). -/
theorem exec_feedTimeout {t : Tag} (hg : s.zu.gates.get g = ⟨.released, true, some t⟩) (hf : g = .feed) :
    exec (.passageTimeout g) s = .next (jamAdmission (markOverdue u) t) := by
  refine congrArg Host.Outcome.next ?_
  rw [chDue_of_expiry hd]
  show passageTimedOut (setPassage s g { s.tu.passage.get g with expiry := none }) g = _
  unfold passageTimedOut
  dsimp only
  rw [gateToIdle_taken hu, setPassage, hg, hf]

end

/-- The selection attempt leaves the records and the places. -/
theorem sendHoldRaised_selectionAttempt (s : State) (t : Tag) (h : HoldReason) (k : Nat) (a : Option Stage) {r : Record}
    (hr : lookup s t = some r) :
    sendHoldRaised (selectionAttempt s) t h k a
      = placeNotice (selectionAttempt s) supervisorNode (.holdRaised t h k (a.getD r.stage) (placeOf s t) (holdMarks r)) := by
  obtain ⟨lp, tu, cs, g, hs⟩ := selectionAttempt_frame s
  have hl : lookup (selectionAttempt s) t = some r := by
    rw [hs]
    exact hr
  have hp : placeOf (selectionAttempt s) t = placeOf s t := by
    rw [hs]
    rfl
  unfold sendHoldRaised
  rw [hl, hp]
  rfl

theorem withdrawInlet_of_stage {t : Tag} {r : Record} (hr : lookup s t = some r) (h : r.stage ≠ .waitInlet) : withdrawInlet s t = s := by
  unfold withdrawInlet
  rw [hr]
  exact if_neg h

/-- JAM that is held already leaves the selection attempt alone. -/
theorem jamAdmission_held {t : Tag} {r : Record} (hr : lookup s t = some r) (hc : carries r .jam = true) :
    jamAdmission s t = selectionAttempt s := by
  refine if_neg ?_
  rw [isNewHold_iff]
  rintro ⟨r', hr', hc'⟩
  rw [hr] at hr'
  cases hr'
  rw [hc] at hc'
  cases hc'

theorem jamAdmission_new {t : Tag} {r : Record} (hr : lookup s t = some r) (hc : carries r .jam = false) (hst : r.stage ≠ .waitInlet) :
    jamAdmission s t = placeNotice (selectionAttempt (putHold s t .jam 0)) supervisorNode
      (.holdRaised t .jam 0 r.stage (placeOf s t) (holdMarks { r with holds := r.holds ++ [⟨.jam, 0, s.clock⟩] })) := by
  unfold jamAdmission
  rw [if_pos (isNewHold_iff.mpr ⟨r, hr, hc⟩), withdrawInlet_of_stage hr hst]
  exact sendHoldRaised_selectionAttempt _ t .jam 0 none
    (lookup_updRecord_some (g := fun r => { r with holds := r.holds ++ [⟨.jam, 0, s.clock⟩] }) hr fun _ => rfl)

/-- Settles O16: the event and the expiry in their order, the lane passage, and JAM at both kinds of gate. -/
theorem lanePassageOrTimeoutEndsRelease : Obligations.LanePassageOrTimeoutEndsRelease := by
  refine ⟨fun s l e he => ⟨fun d hd hr => exec_passage_waits he hd hr, fun hno => ?_⟩, fun s g t d u hd hg hu => ?_⟩
  · rw [exec_passage_taken he hno]
    refine ⟨fun t hg => congrArg Host.Outcome.next ?_, fun hg => congrArg Host.Outcome.next (passageAt_blocked { s with tu.passages := s.tu.passages.erase e } hg e.stamp)⟩
    rw [passageAt_lane { s with tu.passages := s.tu.passages.erase e } hg, lanePassage]
    refine congrArg routingAttempt ?_
    rw [updRecord_eq]
    rfl
  · refine ⟨fun l hl => exec_laneTimeout hd hu hg hl, fun r v hfeed hr hv => ?_⟩
    · have hmark : markOverdue u = v := by rw [hv, markOverdue, hu]
      have hrec : v.records = s.records := by rw [hv, hu]
      have hr' : lookup v t = some r := by
        unfold lookup at hr ⊢
        rw [hrec]
        exact hr
      rw [exec_feedTimeout hd hu hg hfeed, hmark]
      refine ⟨fun hc => congrArg Host.Outcome.next (jamAdmission_held hr' hc), fun hc hst => congrArg Host.Outcome.next ?_⟩
      have hplace : placeOf v t = placeOf s t := by rw [hv, hu]; rfl
      have hclock : v.clock = s.clock := by rw [hv, hu]
      rw [jamAdmission_new hr' hc hst, putHold, updRecord_eq, hplace, hclock, hrec]
      rfl

/-! ### Admissions -/

/-- A lookup of another tag passes over an update. -/
theorem lookup_updRecord_other {x t : Tag} (s : State) {g : Record → Record} (hg : ∀ r, (g r).tag = r.tag) (hx : x ≠ t) :
    lookup (updRecord s t g) x = lookup s x := by
  have hfind : ∀ l : List Record, (l.map fun r => if r.tag == t then g r else r).find? (·.tag == x) = l.find? (·.tag == x) := by
    intro l
    induction l with
    | nil => rfl
    | cons y l ih =>
      rw [List.map_cons]
      by_cases hy : y.tag = t
      · rw [if_pos (beq_iff_eq.mpr hy), List.find?_cons_of_neg (by simp [hg, hy, Ne.symm hx]),
          List.find?_cons_of_neg (by simp [hy, Ne.symm hx]), ih]
      · rw [if_neg (by simp [hy])]
        by_cases hyx : y.tag = x
        · rw [List.find?_cons_of_pos (by simp [hyx]), List.find?_cons_of_pos (by simp [hyx])]
        · rw [List.find?_cons_of_neg (by simp [hyx]), List.find?_cons_of_neg (by simp [hyx]), ih]
  unfold lookup
  split
  · rfl
  · exact hfind s.records

/-- What a fold of updates over distinct tags does to each record. -/
theorem lookup_foldl_updRecord {g : Record → Record} (hg : ∀ r, (g r).tag = r.tag) {l : List Tag} (hl : l.Nodup) (s : State) (x : Tag) :
    lookup (l.foldl (fun s x => updRecord s x g) s) x = (lookup s x).map fun y => if x ∈ l then g y else y := by
  induction l generalizing s with
  | nil => simp
  | cons t l ih =>
    obtain ⟨hnot, hl⟩ := List.nodup_cons.mp hl
    rw [List.foldl_cons, ih hl]
    by_cases hx : x = t
    · subst hx
      rw [lookup_updRecord_same s x g hg, Option.map_map]
      simp [Function.comp_def, hnot]
    · rw [lookup_updRecord_other s hg hx]
      simp [hx]

theorem foldl_updRecord_tags {g : Record → Record} (hg : ∀ r, (g r).tag = r.tag) (l : List Tag) (s : State) :
    (l.foldl (fun s x => updRecord s x g) s).records.map (·.tag) = s.records.map (·.tag) := by
  induction l generalizing s with
  | nil => rfl
  | cons t l ih => rw [List.foldl_cons, ih, updRecord_tags s t g hg]

/-- The state after an admission, with its records apart (R162). -/
theorem admitted_eq (s : State) (ahead : List Tag) (t : Tag) : admitted s ahead t =
    { s with
      records := (admissionTable s ahead t).records
      tu.load := if s.cs.batchList.isEmpty then chStart (s.clock + sec s.cs.working.loadWait) else s.tu.load
      cs.batchCounter := admissionBatch s
      cs.batchList := s.cs.batchList ++ [t]
      cs.ffCount := s.cs.ffCount + ffCountOf (admissionTable s ahead t) [t] } := by
  unfold admitted
  rw [admissionTable_eq]

/-- What an admission does to each record (R162). -/
theorem lookup_admissionTable {ahead : List Tag} (hnd : ahead.Nodup) {t : Tag} (ht : t ∉ ahead) {x : Tag} {y : Record}
    (hy : lookup s x = some y) : lookup (admissionTable s ahead t) x
      = some (if x = t then batchedRecord (admissionBatch s) y else if x ∈ passedOver s ahead then skippedRecord y else y) := by
  have hskip := lookup_foldl_updRecord (g := skippedRecord) (fun _ => rfl) (hnd.filter fun x => isCandidate s x && isBarred s x) s x
  rw [hy] at hskip
  unfold admissionTable
  by_cases hx : x = t
  · subst hx
    have hnot : x ∉ ahead.filter (fun x => isCandidate s x && isBarred s x) := fun h => ht (List.mem_filter.mp h).1
    rw [Option.map_some, if_neg hnot] at hskip
    rw [if_pos rfl]
    exact lookup_updRecord_some hskip fun _ => rfl
  · rw [lookup_updRecord_other _ (g := batchedRecord _) (fun _ => rfl) hx, if_neg hx]
    exact hskip

theorem admissionTable_tags (s : State) (ahead : List Tag) (t : Tag) :
    (admissionTable s ahead t).records.map (·.tag) = s.records.map (·.tag) := by
  unfold admissionTable
  rw [updRecord_tags _ _ (batchedRecord _) fun _ => rfl]
  exact foldl_updRecord_tags (g := skippedRecord) (fun _ => rfl) _ s

/-- Settles O17: the admission is the state change of the statement; each record's fate follows from the folds over distinct tags. -/
theorem feedPassageAdmitsRecord : Obligations.FeedPassageAdmitsRecord := by
  intro s e he
  refine ⟨fun d hd hr => exec_passage_waits he hd hr, fun hno => ?_⟩
  rw [exec_passage_taken he hno]
  refine ⟨fun t r ahead behind hg hr hb hnd => ?_, fun hg => congrArg Host.Outcome.next (passageAt_blocked (g := .feed) { s with tu.passages := s.tu.passages.erase e } hg e.stamp)⟩
  rw [hb] at hnd
  obtain ⟨hnda, hndb, hdisj⟩ := List.nodup_append.mp hnd
  have hta : t ∉ ahead := fun h => hdisj t h t List.mem_cons_self rfl
  have hne : ∀ x ∈ ahead, (x != t) = true := fun x hx => bne_iff_ne.mpr fun h => hta (h ▸ hx)
  have hahead : s.zu.buffer.takeWhile (· != t) = ahead := by
    rw [hb, List.takeWhile_append_of_pos hne]
    simp
  have hrest : s.zu.buffer.filter (· != t) = ahead ++ behind := by
    rw [hb, List.filter_append, List.filter_eq_self.mpr hne, List.filter_cons_of_neg (by simp), List.filter_eq_self.mpr]
    exact fun x hx => bne_iff_ne.mpr fun h => (List.nodup_cons.mp hndb).1 (h ▸ hx)
  have harrive : ∃ v : State, v = { s with
        tu.passages := s.tu.passages.erase e
        tu.passage := s.tu.passage.set .feed ⟨.idle, none⟩
        zu.gates := s.zu.gates.set .feed ⟨.idle, false, none⟩
        zu.buffer := ahead ++ behind
        zu.chamber := s.zu.chamber ++ [t] }
      ∧ passageAt { s with tu.passages := s.tu.passages.erase e } .feed e.stamp = takeAdmission v ahead t := by
    refine ⟨_, rfl, ?_⟩
    rw [passageAt_feed { s with tu.passages := s.tu.passages.erase e } hg, ← hrest]
    unfold feedPassage standsAhead
    dsimp only
    rw [hahead]
    rfl
  obtain ⟨v, hv, hpass⟩ := harrive
  have hbatch : admissionBatch v =
      if s.cs.batchList = [] then (if s.cs.batchCounter = 65535 then 1 else s.cs.batchCounter + 1) else s.cs.batchCounter := by
    rw [hv]
    exact if_congr List.isEmpty_iff rfl rfl
  have hlook : ∀ {x : Tag} {y : Record}, lookup s x = some y → lookup v x = some y := fun h => by rw [hv]; exact h
  have hff : ffCountOf (admissionTable v ahead t) [t] = if r.foamClass = .h then 0 else 1 := by
    have := lookup_admissionTable hnda hta (hlook hr)
    rw [if_pos rfl] at this
    simp only [ffCountOf, List.filter_cons, this, Option.any_some, batchedRecord, List.filter_nil]
    cases r.foamClass <;> rfl
  refine ⟨_, admitted v ahead t, rfl, ?_, ?_, fun x y hy => ?_, congrArg Host.Outcome.next ?_⟩
  · rw [← hbatch, ← hff, admitted_eq]
    simp only [← List.isEmpty_iff]
    rw [hv]
  · rw [admitted_eq]
    refine (admissionTable_tags v ahead t).trans ?_
    rw [hv]
  · have hpassed : x ∈ passedOver v ahead ↔ x ∈ ahead ∧ isCandidate s x = true ∧ isBarred s x = true := by
      rw [hv]
      exact List.mem_filter.trans (and_congr_right fun _ => Bool.and_eq_true_iff)
    rw [← hbatch]
    refine (lookup_admissionTable hnda hta (hlook hy)).trans (congrArg some ?_)
    exact if_congr Iff.rfl rfl (if_congr hpassed rfl rfl)
  · rw [hpass, takeAdmission_eq, List.length_append]
    rw [hv]
    rfl

end Sys2Proof.Machine
end

section
/-!
Config Write (12.2): the line, class and zone items, and the items of a vessel and of a sensor entry.
-/

namespace Sys2Proof.Machine

variable {s t : State} {f : Frame} {rest : List Frame} {k : ReqKind} {n : Node}

/-! ### A Config Write by its item -/

theorem clampInt_eq {lo hi : Int} (h : lo ≤ hi) (v : Int) : clampInt lo hi v = max lo (min v hi) := by
  unfold clampInt
  split
  · omega
  · split <;> omega

theorem clampNat_int {lo hi : Nat} (h : lo ≤ hi) (v : Int) : (clampNat lo hi v : Int) = max (lo : Int) (min v (hi : Int)) := by
  unfold clampNat
  rw [clampInt_eq (by omega)]
  omega

/-- A number that is the clamped value, is the clamp. -/
theorem eq_clampNat {lo hi x : Nat} {v : Int} (h : lo ≤ hi) (hx : (x : Int) = max (lo : Int) (min v (hi : Int))) : clampNat lo hi v = x := by
  have := clampNat_int h v
  omega

section
variable (h : FromSupervisor s .configWrite f rest)
include h

theorem exec_configWrite_stored {i : ConfigItem} {v : Value} (hi : f.fields.item = some (.config i))
    (hw : writeItem (popped s rest) i f.fields.value = .ok (t, v)) :
    exec .configWrite s = .next (answeredWith t (doneFrame 14 0x21 (.stored v))) := by
  refine exec_supervisor_done h ?_
  show configWriteBody f (popped s rest) = _
  unfold configWriteBody
  rw [hi]
  dsimp only
  rw [hw]

theorem exec_configWrite_refused {i : ConfigItem} {r : Reason} (hi : f.fields.item = some (.config i))
    (hw : writeItem (popped s rest) i f.fields.value = .error r) :
    exec .configWrite s = .next (answeredWith (popped s rest) (refusedFrame 14 0x21 r)) := by
  refine exec_supervisor_refused h ?_
  show configWriteBody f (popped s rest) = _
  unfold configWriteBody
  rw [hi]
  dsimp only
  rw [hw]

theorem exec_configWrite_noItem (hi : ∀ i, f.fields.item ≠ some (.config i)) :
    exec .configWrite s = .next (answeredWith (popped s rest) (refusedFrame 14 0x21 .badValue)) := by
  refine exec_supervisor_refused h ?_
  show configWriteBody f (popped s rest) = _
  unfold configWriteBody
  split
  · exact absurd ‹_› (hi _)
  · rfl

/-- A write that is stored under a condition, and else refused with BAD_VALUE. -/
theorem exec_configWrite_ite {i : ConfigItem} {v : Value} {p : Prop} [Decidable p] (hi : f.fields.item = some (.config i))
    (hw : writeItem (popped s rest) i f.fields.value = if p then .ok (t, v) else .error .badValue) :
    exec .configWrite s = .next (if p then answeredWith t (doneFrame 14 0x21 (.stored v))
      else answeredWith (popped s rest) (refusedFrame 14 0x21 .badValue)) := by
  split
  · exact exec_configWrite_stored h hi (hw.trans (if_pos ‹_›))
  · exact exec_configWrite_refused h hi (hw.trans (if_neg ‹_›))

end

/-! ### Line, class and zone items -/

/-- A line item is clamped and stored where the pair rules hold (R202, R93). -/
theorem writeLine_eq (s : State) (i : LineItem) (v : Int) {x : Nat} {c : ConfigTables}
    (hx : x = clampNat (lineRange i).1 (lineRange i).2 v) (hc : c = withLine s.cfg i x) : writeLine s i (.number v) =
    if c.holdDelay < c.holdEnd ∧ c.completeMin < c.overMax then .ok ({ s with cfg := c }, .number x) else .error .badValue := by
  subst hx hc
  refine if_congr ?_ rfl rfl
  simp [linePairs]

/-- A capacity in CONFIG is stored where it lies in its range, is not below the occupancy, and all places come to at most 64 (R25). -/
theorem writeCapacity_config (hl : s.line.state = .config) (z : CapZone) (v : Nat) : writeCapacity s z (.number v) =
    if 1 ≤ v ∧ v ≤ capLimit z ∧ (zoneList s (capPlace z)).length ≤ v ∧ totalCapacity (withCapacity s.cfg z v) ≤ 64 then
      .ok ({ s with cfg := withCapacity s.cfg z v }, .number v)
    else .error .badValue := by
  unfold writeCapacity
  rw [if_neg (fun h => h hl)]
  show (if 1 ≤ (v : Int) ∧ (v : Int) ≤ capLimit z ∧ totalCapacity (withCapacity s.cfg z (v : Int).toNat) ≤ Config.tableSlots
    ∧ (zoneList s (capPlace z)).length ≤ (v : Int).toNat then Except.ok ({ s with cfg := withCapacity s.cfg z (v : Int).toNat },
      Value.number ((v : Int).toNat : Int)) else Except.error Reason.badValue) = _
  rw [Int.toNat_natCast]
  refine if_congr ?_ rfl rfl
  rw [show Config.tableSlots = 64 from rfl]
  omega

/-- Settles O21: each item by its write, and the table of the ranges. -/
theorem configWriteSetsLineAndZoneItems : Obligations.ConfigWriteSetsLineAndZoneItems := by
  refine ⟨fun s f rest h => ⟨fun i v hi hv => ?_, fun c v x hi hv hx => ?_, fun c v x hi hv hx => ?_, fun z hi hl => ?_,
    fun z v c hi hl hv hc => ?_, fun l r hi hv => ?_, fun hno => ?_⟩, fun c => rfl⟩
  · obtain ⟨h1, h2, h3, h4, h5, h6⟩ := withLine_rest s.cfg i (clampNat (lineRange i).1 (lineRange i).2 v)
    have hrange : (lineRange i).1 ≤ (lineRange i).2 := by cases i <;> decide
    refine ⟨_, _, clampNat_int hrange v, fun j => ?_, congrFun h5 .h, congrFun h5 .f, congrFun h6 .h, congrFun h6 .f, h1, h2, h3, h4, ?_,
      exec_configWrite_ite h hi ?_⟩
    · split
      · subst j
        exact lineValue_withLine_same ..
      · exact lineValue_withLine_other _ _ ‹_›
    · cases i <;> rfl
    · rw [hv]
      exact writeLine_eq (popped s rest) i v rfl rfl
  · refine exec_configWrite_stored h hi ?_
    rw [hv, ← eq_clampNat (by decide) hx]
    rfl
  · refine exec_configWrite_stored h hi ?_
    rw [hv, ← eq_clampNat (by decide) hx]
    rfl
  · exact exec_configWrite_refused h hi (if_pos hl)
  · have hw := (congrArg (writeCapacity (popped s rest) z) hv).trans (writeCapacity_config (s := popped s rest) hl z v)
    subst hc
    cases z <;> exact exec_configWrite_ite h hi hw
  · by_cases hl : s.line.state = .config
    · rw [if_pos hl]
      refine exec_configWrite_stored h hi ?_
      rw [hv]
      exact if_neg fun h => h hl
    · rw [if_neg hl]
      exact exec_configWrite_refused h hi (if_pos hl)
  · refine exec_configWrite_noItem h fun i hi => ?_
    rcases hno with hno | ⟨b, j, hno⟩
    · rw [hno] at hi
      cases hi
    · rw [hno] at hi
      cases hi

/-! ### Vessel and sensor items -/

theorem sensorOfIndex_val (j : SensorIx) : sensorOfIndex j.val = some j := dif_pos j.isLt

theorem sensorOfIndex_eq_none {m : Nat} (h : 16 ≤ m) : sensorOfIndex m = none := dif_neg (Nat.not_lt.mpr h)

theorem writeItem_vessel (s : State) (v : VesselIx) (i : VesselItem) (w : Value) : writeItem s (.vessel v.val i) w = writeVessel s v i w := by
  show (match vesselOfIndex v.val with
    | some x => writeVessel s x i w
    | none => .error .badValue) = _
  rw [vesselOfIndex_val]

theorem writeItem_sensor (s : State) (j : SensorIx) (i : SensorItem) (w : Value) : writeItem s (.sensor j.val i) w = writeSensor s j i w := by
  show (match sensorOfIndex j.val with
    | some j => writeSensor s j i w
    | none => .error .badValue) = _
  rw [sensorOfIndex_val]

theorem writeVessel_some {v : VesselIx} {i : VesselItem} {w w' : Value} {x : Vessel} (hs : s.vu.vessels[v].state = .offline)
    (h : withVesselItem s.vu.vessels[v] i w = some (x, w')) :
    writeVessel s v i w = .ok ({ s with vu.vessels := s.vu.vessels.set v x }, w') := by
  unfold writeVessel
  rw [if_neg (fun h => h hs), h]
  rfl

theorem writeVessel_none {v : VesselIx} {i : VesselItem} {w : Value} (hs : s.vu.vessels[v].state = .offline)
    (h : withVesselItem s.vu.vessels[v] i w = none) : writeVessel s v i w = .error .badValue := by
  unfold writeVessel
  rw [if_neg (fun h => h hs), h]

/-- A write of an identity item of a disabled entry (R140). -/
theorem writeSensor_identity {j : SensorIx} {i : SensorItem} {w : Value} (hi : i ≠ .enabled) (ha : i ≠ .assertLimit)
    (hd : i ≠ .deassertLimit) : writeSensor s j i w =
    if s.sn.sensors[j].enabled then .error .badStage
    else match withIdentity s.sn.sensors[j] i w with
      | some (e, stored) => .ok (updSensor s j fun _ => e, stored)
      | none => .error .badValue := by
  cases i with
  | enabled => exact absurd rfl hi
  | assertLimit => exact absurd rfl ha
  | deassertLimit => exact absurd rfl hd
  | _ => rfl

theorem writeSensor_threshold {j : SensorIx} {i : SensorItem} {w : Value} (hi : i = .assertLimit ∨ i = .deassertLimit) :
    writeSensor s j i w = match withThreshold s.sn.sensors[j] i w with
      | some (e, stored) => .ok (updSensor s j fun _ => e, stored)
      | none => .error .badValue := by
  rcases hi with rfl | rfl <;> rfl

/-- The threshold pair after a write, where the kind has limits (R140). -/
theorem withThreshold_eq {e : Sensor} (he : e.kind ≠ .scale) (i : SensorItem) (k : Int) {x : Int} {p : Int × Int}
    (hx : x = clampInt (thresholdRange e.kind).1 (thresholdRange e.kind).2 k)
    (hp : p = if i = .assertLimit then (x, e.thresholds.2) else (e.thresholds.1, x)) :
    withThreshold e i (.number k) = if p.2 < p.1 then some ({ e with thresholds := p }, .number x) else none := by
  have hl : hasLimits e = true := bne_iff_ne.mpr he
  subst hx hp
  unfold withThreshold
  rw [hl]
  rfl

theorem withThreshold_scale {e : Sensor} (he : e.kind = .scale) (i : SensorItem) (w : Value) : withThreshold e i w = none := by
  have hl : hasLimits e = false := by rw [hasLimits, he]; rfl
  unfold withThreshold
  rw [hl]

/-- Settles O22: each item by its write; an enabled mark that changes goes through `setEnabled`. -/
theorem configWriteSetsVesselAndSensorItems : Obligations.ConfigWriteSetsVesselAndSensorItems := by
  intro s f rest h refused taken hrefused htaken
  subst hrefused htaken
  refine ⟨fun v i hi => ⟨fun hs => ?_, fun hs put hput => ?_⟩, fun j e m put hi he hput => ⟨fun hen hm => ?_, fun hen => ?_,
    fun k x hv hm => ?_, fun b x hm hv hx => ?_⟩⟩
  · exact exec_configWrite_refused h hi ((writeItem_vessel ..).trans (if_pos hs))
  · subst hput
    have stored : ∀ {x : Vessel} {w : Value}, withVesselItem s.vu.vessels[v] i f.fields.value = some (x, w) →
        exec .configWrite s = .next (answeredWith { popped s rest with vu.vessels := s.vu.vessels.set v x } (doneFrame 14 0x21 (.stored w))) :=
      fun hw => exec_configWrite_stored h hi ((writeItem_vessel ..).trans (writeVessel_some (s := popped s rest) hs hw))
    refine ⟨fun c hi hv => ?_, fun k x hv => ⟨fun hi hx => ?_, fun hi hx => ?_, fun hi hx => ?_, fun hi' hk => ?_, fun j hi hk => ?_⟩⟩
    · refine stored ?_
      rw [hi, hv]
      rfl
    · refine stored ?_
      rw [hi, hv, ← eq_clampNat (lo := 1000) (hi := 60000) (by decide) hx]
      rfl
    · refine stored ?_
      rw [hi, hv, ← eq_clampNat (lo := 500) (hi := 950) (by decide) hx]
      rfl
    · refine stored ?_
      rw [hi, hv, ← eq_clampNat (lo := 1) (hi := 10) (by decide) hx]
      rfl
    · refine exec_configWrite_refused h hi ((writeItem_vessel ..).trans (writeVessel_none (s := popped s rest) hs ?_))
      rw [hi', hv]
      unfold withVesselItem
      dsimp only
      split
      · rfl
      · rw [sensorOfIndex_eq_none (by omega)]
        rfl
    · refine stored ?_
      rw [hi, hv, hk]
      unfold withVesselItem
      dsimp only
      rw [if_neg (by omega), Int.toNat_natCast, sensorOfIndex_val]
      rfl
  · have hm' : m ≠ .enabled ∧ m ≠ .assertLimit ∧ m ≠ .deassertLimit := by
      rcases hm with rfl | rfl | rfl | rfl | rfl <;> decide
    refine exec_configWrite_refused h hi ((writeItem_sensor ..).trans
      ((writeSensor_identity (s := popped s rest) hm'.1 hm'.2.1 hm'.2.2).trans (if_pos ?_)))
    rw [he] at hen
    exact hen
  · have hen' : (popped s rest).sn.sensors[j].enabled = false := he ▸ hen
    have identity : ∀ {x : Sensor} {w : Value} {p : Prop} [Decidable p], m ≠ .enabled → m ≠ .assertLimit → m ≠ .deassertLimit →
        withIdentity e m f.fields.value = (if p then some (x, w) else none) →
        exec .configWrite s = if p then .next (answeredWith (put x) (doneFrame 14 0x21 (.stored w)))
          else .next (answeredWith (popped s rest) (refusedFrame 14 0x21 .badValue)) := by
      intro x w p _ h1 h2 h3 hw
      have hwrite := (writeSensor_identity (s := popped s rest) (j := j) (w := f.fields.value) h1 h2 h3).trans
        (if_neg (by rw [hen']; decide))
      rw [show (popped s rest).sn.sensors[j] = e from he.symm, hw] at hwrite
      rw [hput]
      by_cases hp : p
      · rw [if_pos hp] at hwrite ⊢
        exact exec_configWrite_stored h hi ((writeItem_sensor ..).trans hwrite)
      · rw [if_neg hp] at hwrite ⊢
        exact exec_configWrite_refused h hi ((writeItem_sensor ..).trans hwrite)
    refine ⟨fun k hm hv => ?_, fun k x hv => ⟨fun hm hk => ?_, fun hm hk => ?_, fun hm hk => ?_, fun hm hx => ?_⟩⟩
    · subst hm
      refine (identity (p := True) (by decide) (by decide) (by decide) ?_).trans (if_pos trivial)
      rw [hv, if_pos trivial]
      cases k <;> rfl
    · subst hm hk
      refine identity (by decide) (by decide) (by decide) ?_
      rw [hv]
      exact if_congr (by simp [inRange]) (by rfl) rfl
    · subst hm hk
      refine identity (by decide) (by decide) (by decide) ?_
      rw [hv]
      exact if_congr (by simp [inRange]) (by rfl) rfl
    · subst hm hk
      refine identity (by decide) (by decide) (by decide) ?_
      rw [hv]
      exact if_congr (by simp [inRange]) (by rfl) rfl
    · subst hm
      refine (identity (p := True) (by decide) (by decide) (by decide) ?_).trans (if_pos trivial)
      rw [hv, if_pos trivial, ← eq_clampNat (lo := 1) (hi := 4095) (by decide) hx]
      rfl
  · have hwrite := writeSensor_threshold (s := popped s rest) (j := j) (w := f.fields.value) hm
    rw [show (popped s rest).sn.sensors[j] = e from he.symm, hv] at hwrite
    refine ⟨fun hk => ?_, fun hk hx => ?_⟩
    · rw [withThreshold_scale hk] at hwrite
      exact exec_configWrite_refused h hi ((writeItem_sensor ..).trans (hv ▸ hwrite))
    · have hclamp : x = clampInt (thresholdRange e.kind).1 (thresholdRange e.kind).2 k := by
        rw [hx]
        cases hkind : e.kind with
        | scale => exact absurd hkind hk
        | _ => exact (clampInt_eq (by decide) k).symm
      have stored : ∀ {p : Int × Int}, withThreshold e m (.number k) = (if p.2 < p.1 then some ({ e with thresholds := p }, .number x) else none) →
          exec .configWrite s = if p.2 < p.1 then .next (answeredWith (put { e with thresholds := p }) (doneFrame 14 0x21 (.stored (.number x))))
            else .next (answeredWith (popped s rest) (refusedFrame 14 0x21 .badValue)) := by
        intro p hw
        rw [hw] at hwrite
        rw [hput]
        by_cases hp : p.2 < p.1
        · rw [if_pos hp] at hwrite ⊢
          exact exec_configWrite_stored h hi ((writeItem_sensor ..).trans (hv ▸ hwrite))
        · rw [if_neg hp] at hwrite ⊢
          exact exec_configWrite_refused h hi ((writeItem_sensor ..).trans (hv ▸ hwrite))
      refine ⟨fun hm => ?_, fun hm => ?_⟩
      · exact stored (p := (x, e.thresholds.2)) (withThreshold_eq hk m k hclamp (by rw [if_pos hm]))
      · exact stored (p := (e.thresholds.1, x)) (withThreshold_eq hk m k hclamp (by rw [hm]; rfl))
  · have stored : ∀ {u : State}, setEnabled (popped s rest) j b = u →
        exec .configWrite s = .next (answeredWith u (doneFrame 14 0x21 (.stored (.mark b)))) := by
      intro u hu
      refine exec_configWrite_stored h hi ((writeItem_sensor ..).trans ?_)
      rw [hm, hv, ← hu]
      rfl
    have hsensor : (popped s rest).sn.sensors[j] = e := he.symm
    refine ⟨fun hb => stored ?_, fun hen hb => stored ?_, fun hen hb => stored ?_⟩
    · exact if_pos (by rw [hsensor, hb])
    · unfold setEnabled
      rw [hsensor, hen, hb, if_neg (by decide), if_pos rfl, hput, hx, hb, updSensor, hsensor]
      rfl
    · unfold setEnabled
      rw [hsensor, hen, hb, if_neg (by decide), if_neg (by decide), hput, hx, hb, updSensor, hsensor]
      rfl

end Sys2Proof.Machine
end

section
/-!
The requests that report (1.4, 2.7, 3.10, 6.6, 8.7, 9.9, 12.2) and the bits of the hold marks (11.6).
-/

namespace Sys2Proof.Machine

variable {s t : State} {f : Frame} {rest : List Frame} {k : ReqKind} {n : Node}

/-! ### Config Read -/

/-- A Config Read is answered with what the item holds, or refused (R203). -/
theorem exec_configRead (h : FromSupervisor s .configRead f rest) :
    exec .configRead s = .next (answeredWith (popped s rest) (match f.fields.item.bind (readResult s) with
      | some r => doneFrame 14 0x22 r
      | none => refusedFrame 14 0x22 .badValue)) := by
  have hbody : configReadBody f (popped s rest) = match f.fields.item.bind (readResult s) with
    | none => refuse (popped s rest) .badValue
    | some r => answerDone (popped s rest) r := rfl
  cases hx : f.fields.item.bind (readResult s) with
  | none =>
    rw [hx] at hbody
    exact exec_supervisor_refused h hbody
  | some r =>
    rw [hx] at hbody
    exact exec_supervisor_done h hbody

theorem remainingMs_eq (now : Clock) (c : Channel) : remainingMs now c = match c.run with
    | .running d => if reached now d = true then 0 else (d - now).toNat
    | .frozen r => r
    | .idle => 0 := by
  unfold remainingMs
  cases c.run <;> rfl

/-- A threshold is reported unless the entry is of kind SCALE (R203, assumption 20). -/
theorem hasLimits_ite {α : Type} (e : Sensor) (a b : α) : (if hasLimits e then a else b) = if e.kind = .scale then b else a := by
  unfold hasLimits
  by_cases h : e.kind = .scale
  · rw [if_pos h, h]
    rfl
  · rw [if_neg h, if_pos (bne_iff_ne.mpr h)]

/-! ### Zone Read -/

/-- The zone codes name the places (11.6); a station position needs its node, of an entry of kind EXTRACT (R49). -/
theorem namedPlace_of {p : Place} {m : Nat} (h : ∀ n : Node, p = .station n → m = nodeNumber n ∧ s.stations[n].kind = some .extract) :
    namedPlace s (placeCode p) m = some p := by
  cases p with
  | station n =>
    obtain ⟨hm, hk⟩ := h n rfl
    show (nodeOf m).bind (fun n => if s.stations[n].kind = some .extract then some (Place.station n) else none) = _
    rw [hm, nodeOf_nodeNumber]
    exact if_pos hk
  | lane l => cases l <;> rfl
  | _ => rfl

theorem nodeNumber_of_nodeOf {m : Nat} {n : Node} (h : nodeOf m = some n) : m = nodeNumber n := by
  unfold nodeOf at h
  split at h
  · cases h
    show m = m - 1 + 1
    omega
  · cases h

theorem zoneOfCode_eq_none {m : Nat} (h : 8 ≤ m) : zoneOfCode m = none := by
  match m, h with
  | m + 8, _ => rfl

theorem namedPlace_eq_none {z m : Nat} (h : 8 ≤ z ∨ (z = 4 ∧ ∀ n : Node, m = nodeNumber n → s.stations[n].kind ≠ some .extract)) :
    namedPlace s z m = none := by
  unfold namedPlace
  rcases h with h | ⟨rfl, h⟩
  · rw [zoneOfCode_eq_none h]
  · show (nodeOf m).bind (fun n => if s.stations[n].kind = some .extract then some (Place.station n) else none) = none
    rw [Option.bind_eq_none_iff]
    intro n hn
    exact if_neg (h n (nodeNumber_of_nodeOf hn))

/-- A supervisor's request whose body answers in several frames. -/
theorem exec_supervisor_frames (h : FromSupervisor s k f rest) {u : State} {r : Reply} (hb : bodyOf k .supervisor f (popped s rest) = (u, r)) :
    exec (requestCommand k) s = .next (placeAnswer u (replyFrames 14 k.code r)) := by
  rw [exec_of_supervisor h, hb]
  rfl

theorem zoneReply_eq (s : State) (p : Place) (k : Nat) : zoneReply s p k = replyParts
    (.zone p (zoneList s p).length (capacity s p)
      (match p with
        | .lane l => (s.zu.gates.get (.lane l)).passing.isSome
        | .chamber => s.zu.gates.feed.passing.isSome
        | _ => false)
      (match p with
        | .lane l => some (s.zu.gates.get (.lane l)).state
        | .chamber => some s.zu.gates.feed.state
        | _ => none))
    [.zoneSlot (zoneSlot s p k), .zoneSlot (zoneSlot s p (k + 1))] := by
  cases p <;> rfl

/-! ### The items reported -/

theorem zoneSlot_none {p : Place} {k : Nat} (h : (zoneList s p)[k]? = none) : zoneSlot s p k = none := by
  unfold zoneSlot
  rw [h]
  rfl

theorem zoneSlot_some {p : Place} {k : Nat} {t : Tag} (h : (zoneList s p)[k]? = some t) :
    zoneSlot s p k = (lookup s t).map fun r => ⟨r.tag, r.stage, isHeld r⟩ := by
  unfold zoneSlot
  rw [h]
  rfl

/-- Settles O23: each report answers what the state holds, and changes LP's queues alone. -/
theorem reportsChangeNothing : Obligations.ReportsChangeNothing := by
  refine ⟨fun s f rest => ⟨fun h => ⟨_, exec_configRead h, ?_⟩, fun h => ⟨fun hno => ?_, fun p hz hn => ⟨fun hk => ?_, fun hk => ?_⟩⟩,
      fun h => ⟨fun hv => ?_, fun v hv => ?_⟩, fun h => ?_⟩,
    fun s p k => ⟨zoneSlot_none, fun t ht => ⟨fun hr => ?_, fun r hr => ?_⟩⟩, fun v => ⟨fun hn => ?_, fun net hn => ?_⟩,
    fun s v => ?_, fun s => ⟨rfl, rfl, rfl, rfl, rfl, rfl, rfl, rfl, fun l => ⟨rfl, rfl⟩, fun n => ⟨rfl, ?_⟩,
      fun t => ⟨fun p => mem_of_placeOf, fun h p => not_mem_of_placeOf_none h p⟩⟩⟩
  · refine ⟨fun i hi => ?_, fun c hi => ?_, fun c hi => ?_, fun z hi => ?_, fun l hi => ?_, fun v i hi => ?_, fun j m hi => ?_,
      fun staged r hr => ⟨fun p hi => ?_, fun x hi => ?_, fun p o hp hi => ?_⟩, fun i hi => ?_, ?_⟩
    · rw [hi]
      rfl
    · rw [hi]
      cases c <;> rfl
    · rw [hi]
      cases c <;> rfl
    · rw [hi]
      cases z <;> rfl
    · rw [hi]
      rfl
    · rw [hi]
      show ((vesselOfIndex v.val).map fun v => vesselValue s.vu.vessels[v] i).map Result.stored = _
      rw [vesselOfIndex_val]
      cases i <;> rfl
    · rw [hi]
      show ((sensorOfIndex j.val).bind fun j => sensorValue s.sn.sensors[j] m).map Result.stored = _
      rw [sensorOfIndex_val]
      show (sensorValue s.sn.sensors[j] m).map Result.stored = _
      cases m with
      | assertLimit =>
        show (if hasLimits s.sn.sensors[j] then some (Value.number s.sn.sensors[j].thresholds.1) else none).map Result.stored = _
        rw [hasLimits_ite, apply_ite (Option.map Result.stored)]
        rfl
      | deassertLimit =>
        show (if hasLimits s.sn.sensors[j] then some (Value.number s.sn.sensors[j].thresholds.2) else none).map Result.stored = _
        rw [hasLimits_ite, apply_ite (Option.map Result.stored)]
        rfl
      | _ => rfl
    · rw [hi, hr]
      rfl
    · rw [hi, hr]
      cases x <;> rfl
    · rw [hi, hr]
      cases p with
      | safe => exact absurd rfl hp
      | _ => rfl
    · rw [hi]
      cases i with
      | reconcileRemaining => exact congrArg (fun x : Nat => some (Result.stored (.number x))) (remainingMs_eq ..)
      | _ => rfl
    · rintro (hi | ⟨k, i, hk, hi⟩ | ⟨k, m, hk, hi⟩ | ⟨b, p, hi⟩ | ⟨b, o, hi⟩)
      · rw [hi]
        rfl
      · rw [hi]
        show ((vesselOfIndex k).map fun v => vesselValue s.vu.vessels[v] i).map Result.stored = _
        rw [vesselOfIndex_eq_none hk]
        rfl
      · rw [hi]
        show ((sensorOfIndex k).bind fun j => sensorValue s.sn.sensors[j] m).map Result.stored = _
        rw [sensorOfIndex_eq_none hk]
        rfl
      · rw [hi]
        cases p <;> rfl
      · rw [hi]
        rfl
  · refine exec_supervisor_refused h ?_
    show zoneReadBody f (popped s rest) = _
    unfold zoneReadBody
    rw [namedPlace_eq_none (s := popped s rest) hno]
  · refine exec_supervisor_refused h ?_
    show zoneReadBody f (popped s rest) = _
    unfold zoneReadBody
    rw [hz, namedPlace_of (s := popped s rest) hn]
    exact if_pos hk
  · have hbody : zoneReadBody f (popped s rest) = (popped s rest, zoneReply s p f.fields.position) := by
      unfold zoneReadBody
      rw [hz, namedPlace_of (s := popped s rest) hn]
      exact if_neg (Nat.not_le.mpr hk)
    refine (exec_supervisor_frames h hbody).trans ?_
    rw [zoneReply_eq]
    rfl
  · refine exec_supervisor_refused h ?_
    show vesselStatusBody f (popped s rest) = _
    unfold vesselStatusBody
    rw [vesselOfIndex_eq_none hv]
  · have hbody : vesselStatusBody f (popped s rest) = (popped s rest, vesselReply (popped s rest) v) := by
      unfold vesselStatusBody
      rw [hv, vesselOfIndex_val]
    exact exec_supervisor_frames h hbody
  · refine (exec_supervisor_frames h (u := popped s rest) (r := chamberReply (popped s rest)) rfl).trans ?_
    unfold chamberReply batchNumber
    simp only [List.isEmpty_iff]
    rfl
  · rw [zoneSlot_some ht, hr]
    rfl
  · rw [zoneSlot_some ht, hr]
    cases hh : r.holds <;> simp [isHeld, hh]
  · unfold fillPerMille
    rw [hn]
  · unfold fillPerMille
    rw [hn]
    exact clampNat_int (by decide) _
  · exact if_congr Iff.rfl (remainingMs_eq ..) rfl
  · show (s.stations[n].claim).toList = _
    cases s.stations[n].claim <;> rfl

/-! ### Hold marks -/

/-- A sum of distinct powers of two, largest first, has the bits of its exponents. -/
theorem testBit_sum_two_pow {es : List Nat} (hes : es.Pairwise (· > ·)) (i : Nat) :
    ((es.map (2 ^ ·)).sum).testBit i = true ↔ i ∈ es := by
  have bound : ∀ {es : List Nat} {m : Nat}, es.Pairwise (· > ·) → (∀ e ∈ es, e < m) → (es.map (2 ^ ·)).sum < 2 ^ m := by
    intro es
    induction es with
    | nil => exact fun _ _ => Nat.two_pow_pos _
    | cons e es ih =>
      intro m hp hm
      obtain ⟨he, hp⟩ := List.pairwise_cons.mp hp
      have htail := ih hp he
      have hpow : 2 ^ (e + 1) ≤ 2 ^ m := Nat.pow_le_pow_right (by decide) (hm e List.mem_cons_self)
      rw [List.map_cons, List.sum_cons]
      omega
  induction es with
  | nil => simp
  | cons e es ih =>
    obtain ⟨he, hp⟩ := List.pairwise_cons.mp hes
    have htail : (es.map (2 ^ ·)).sum < 2 ^ e := bound hp he
    rw [List.map_cons, List.sum_cons, List.mem_cons]
    rcases Nat.lt_trichotomy i e with hlt | rfl | hgt
    · rw [Nat.testBit_two_pow_add_gt hlt]
      exact (ih hp).trans ⟨.inr, fun h => h.resolve_left (Nat.ne_of_lt hlt)⟩
    · rw [Nat.testBit_two_pow_add_eq, Nat.testBit_lt_two_pow htail]
      exact ⟨fun _ => .inl rfl, fun _ => rfl⟩
    · have hsum : 2 ^ e + (es.map (2 ^ ·)).sum < 2 ^ i := by
        have hpow : 2 ^ (e + 1) ≤ 2 ^ i := Nat.pow_le_pow_right (by decide) hgt
        omega
      rw [Nat.testBit_lt_two_pow hsum]
      refine ⟨Bool.noConfusion, ?_⟩
      rintro (rfl | h)
      · exact absurd hgt (Nat.lt_irrefl _)
      · exact absurd (he i h) (by omega)

theorem foldl_add_eq {α : Type} (g : α → Nat) (l : List α) (a : Nat) : l.foldl (fun m x => m + g x) a = a + (l.map g).sum := by
  induction l generalizing a with
  | nil => rfl
  | cons x l ih =>
    rw [List.foldl_cons, ih, List.map_cons, List.sum_cons]
    omega

/-- Bit 7 less the code of a reason is its mark (11.6). -/
theorem holdMarks_bit (r : Record) {k : Nat} {h : HoldReason} (hk : reasonList[k]? = some h) :
    (holdMarks r).getLsbD (7 - k) = true ↔ ∃ e ∈ r.holds, e.reason = h := by
  have hcode : k = holdReasonCode h ∧ ∀ x, 7 - holdReasonCode x = 7 - k → x = h := by
    have hall : ∀ x y : HoldReason, 7 - holdReasonCode x = 7 - holdReasonCode y → x = y := by
      intro x y
      cases x <;> cases y <;> decide
    have hlen : k < 8 := (List.getElem?_eq_some_iff.mp hk).1
    have hkh : k = holdReasonCode h := by
      match k, hlen with
      | 0, _ | 1, _ | 2, _ | 3, _ | 4, _ | 5, _ | 6, _ | 7, _ => cases hk; rfl
    exact ⟨hkh, fun x hx => hall x h (hkh ▸ hx)⟩
  have hmem : h ∈ reasonList := by cases h <;> decide
  have hpair : ((reasonList.filter (carries r)).map fun h => 7 - holdReasonCode h).Pairwise (· > ·) := by
    have hlist : reasonList.Pairwise fun a b => 7 - holdReasonCode a > 7 - holdReasonCode b := by decide
    exact List.pairwise_map.mpr (hlist.filter _)
  have hsum : holdMarks r = BitVec.ofNat 8 ((((reasonList.filter (carries r)).map fun h => 7 - holdReasonCode h).map (2 ^ ·)).sum) := by
    unfold holdMarks
    rw [foldl_add_eq (fun h => 2 ^ (7 - holdReasonCode h)), Nat.zero_add, List.map_map]
    rfl
  rw [hsum, BitVec.getLsbD_ofNat, Bool.and_eq_true, testBit_sum_two_pow hpair, List.mem_map, ← carries_iff]
  constructor
  · rintro ⟨-, x, hx, he⟩
    rw [← hcode.2 x he]
    exact (List.mem_filter.mp hx).2
  · exact fun hc => ⟨decide_eq_true (by omega), h, List.mem_filter.mpr ⟨hmem, hc⟩, by rw [← hcode.1]⟩

/-! ### Record Read and the status reads -/

theorem optAgeSeconds_eq (now : Clock) (o : Option (Nat × Clock)) : optAgeSeconds now (o.map (·.2)) = match o with
    | some (_, stamp) => min ((now - stamp).toNat / 1000) 65534
    | none => 65535 := by
  cases o <;> rfl

theorem optAgeMs_eq (now : Clock) (o : Option (Int × Clock)) : optAgeMs now (o.map (·.2)) = match o with
    | some (_, stamp) => min (now - stamp).toNat 65534
    | none => 65535 := by
  cases o <;> rfl

theorem placeBytes_eq (p : Place) :
    placeBytes (some p) = [byteOf (placeCode p), match p with | .station n => byteOf (n.val + 1) | _ => 0] := by
  cases p <;> rfl

theorem ite_isSome {α β : Type} (o : Option α) (a b : β) : (if o.isSome then a else b) = if o = none then b else a := by
  cases o <;> rfl

/-- Settles O24: the bytes of each part, the entries as they stand, and the codes. -/
theorem recordReadAndStatusReads : Obligations.RecordReadAndStatusReads := by
  refine ⟨fun s f rest h => ⟨fun hno => ?_, fun r p hr hp => ?_⟩, fun s f rest => ⟨fun h => ⟨fun hn => ?_, fun n hn => ?_⟩,
      fun h => ⟨fun hi => ?_, fun i hi => ?_⟩⟩, ⟨rfl, rfl, rfl, rfl, rfl, fun n => ⟨rfl, rfl⟩, rfl⟩,
    fun k h hk => ⟨hk, fun r => holdMarks_bit r hk⟩, fun now stamp limit => ⟨rfl, rfl, rfl⟩⟩
  · refine exec_supervisor_refused h ?_
    show recordReadBody f (popped s rest) = _
    unfold recordReadBody
    rw [lookup_popped, hno]
  · have hbody : recordReadBody f (popped s rest) = (popped s rest, recordReply (popped s rest) r) := by
      unfold recordReadBody
      rw [lookup_popped, hr]
    have hplace : placeOf (popped s rest) r.tag = some p := hp
    refine (exec_supervisor_frames h hbody).trans ?_
    have hpart0 : recordPart0 r = [byteOf (r.tag.toNat / 2 ^ 24), byteOf (r.tag.toNat / 2 ^ 16), byteOf (r.tag.toNat / 2 ^ 8), byteOf r.tag.toNat,
        byteOf (classCode r.enrolledClass * 64 + classCode r.cls * 16 + foamCode r.foamClass * 4)] := by
      rw [show r.tag.toNat / 2 ^ 24 = r.tag.toNat / 65536 / 256 from (Nat.div_div_eq_div_mul _ 65536 256).symm]
      rfl
    have hdwell : dwellWord (popped s rest) r = effectiveDwell s r + (if r.dwellOverride = none then 0 else 2 ^ 15) := by
      unfold dwellWord
      rw [ite_isSome]
      rfl
    unfold recordReply
    rw [hpart0]
    unfold recordPart1 recordPart2 recordPart3 recordPart4
    rw [hplace, placeBytes_eq, hdwell, ite_isSome]
    rfl
  · refine exec_supervisor_refused h ?_
    show stationStatusBody f (popped s rest) = _
    unfold stationStatusBody
    rw [nodeOf_eq_none (by omega)]
  · have hbody : stationStatusBody f (popped s rest) =
        (updStation (popped s rest) n fun e => { e with lostLatch := false }, stationReply (popped s rest) n) := by
      unfold stationStatusBody
      rw [hn, nodeOf_nodeNumber]
    refine (exec_supervisor_frames h hbody).trans ?_
    unfold stationReply
    dsimp only
    rw [optAgeSeconds_eq]
    rfl
  · refine exec_supervisor_refused h ?_
    show sensorStatusBody f (popped s rest) = _
    unfold sensorStatusBody
    rw [sensorOfIndex_eq_none hi]
  · have hbody : sensorStatusBody f (popped s rest) =
        (updSensor (popped s rest) i fun e => { e with faultLatch := false }, sensorReply (popped s rest) i) := by
      unfold sensorStatusBody
      rw [hi, sensorOfIndex_val]
    refine (exec_supervisor_frames h hbody).trans ?_
    unfold sensorReply sensorPart2
    dsimp only
    rw [optAgeMs_eq, hasLimits_ite]
    rfl

end Sys2Proof.Machine
end

section
/-!
Recipe Write and Recipe Commit (9.3).
-/

namespace Sys2Proof.Machine

variable {s t : State} {f : Frame} {rest : List Frame} {k : ReqKind} {n : Node}

section
variable (h : FromSupervisor s .recipeWrite f rest)
include h

theorem exec_recipeWrite_taken {i : RecipeItem} {r : Recipe} {v : Value} (hi : f.fields.recipeItem = some i)
    (hw : withRecipeItem s.cs.staged i f.fields.value = some (r, v)) :
    exec .recipeWrite s = .next (answeredWith { popped s rest with cs.staged := r, cs.commitMark := false }
      (doneFrame 14 0x23 (.stored v))) := by
  have hitem : (f.fields.recipeItem.bind fun i => withRecipeItem (popped s rest).cs.staged i f.fields.value) = some (r, v) := by
    rw [hi]
    exact hw
  refine exec_supervisor_done h ?_
  show recipeWriteBody f (popped s rest) = _
  unfold recipeWriteBody
  rw [hitem]

theorem exec_recipeWrite_refused (hw : ∀ i, f.fields.recipeItem = some i → withRecipeItem s.cs.staged i f.fields.value = none) :
    exec .recipeWrite s = .next (answeredWith (popped s rest) (refusedFrame 14 0x23 .badValue)) := by
  have hitem : (f.fields.recipeItem.bind fun i => withRecipeItem (popped s rest).cs.staged i f.fields.value) = none :=
    Option.bind_eq_none_iff.mpr hw
  refine exec_supervisor_refused h ?_
  show recipeWriteBody f (popped s rest) = _
  unfold recipeWriteBody
  rw [hitem]

end

/-! ### Parameters -/

theorem paramRange_nonneg (r : Recipe) {p : Param} (hp : p ≠ .trapMax) : 0 ≤ (paramRange r p).1 := by
  cases p with
  | trapMax => exact absurd rfl hp
  | purgeMax => exact Int.add_nonneg (Int.natCast_nonneg _) (by decide)
  | _ => simp [paramRange]

theorem paramValue_withParam_same (r : Recipe) {p : Param} {x : Int} (hx : p ≠ .trapMax → 0 ≤ x) : paramValue (withParam r p x) p = x := by
  cases p with
  | trapMax => rfl
  | _ => exact Int.toNat_of_nonneg (hx (by decide))

/-- Another parameter keeps its value, but for purge_max when purge_min is written (R158). -/
theorem paramValue_withParam_other (r : Recipe) {p q : Param} (x : Int) (hq : q ≠ p) (h : q ≠ .purgeMax ∨ p ≠ .purgeMin) :
    paramValue (withParam r p x) q = paramValue r q := by
  cases p <;> cases q <;> (try rfl) <;> simp at *

/-- A parameter leaves the sensor names and the patterns. -/
theorem withParam_rest (r : Recipe) (p : Param) (x : Int) :
    (withParam r p x).patterns = r.patterns ∧ (withParam r p x).o2Sensor = r.o2Sensor ∧ (withParam r p x).lel1Sensor = r.lel1Sensor
      ∧ (withParam r p x).lel2Sensor = r.lel2Sensor ∧ (withParam r p x).trapSensor = r.trapSensor
      ∧ (withParam r p x).condensateSensor = r.condensateSensor := by
  cases p <;> exact ⟨rfl, rfl, rfl, rfl, rfl, rfl⟩

theorem withParam_purgeMax (r : Recipe) {x : Int} (hx : 0 ≤ x) :
    ((withParam r .purgeMin x).purgeMax : Int) = if (r.purgeMax : Int) ≤ x then x + 1 else r.purgeMax := by
  show ((if r.purgeMax ≤ x.toNat then x.toNat + 1 else r.purgeMax : Nat) : Int) = _
  split
  · rw [if_pos (by omega)]
    omega
  · rw [if_neg (by omega)]

/-! ### Sensor names -/

theorem withSensorName_index (r : Recipe) (m : SensorName) (i : SensorIx) : withSensorName r m (.number i.val) = some (match m with
    | .o2 => { r with o2Sensor := i }
    | .lel1 => { r with lel1Sensor := i }
    | .lel2 => { r with lel2Sensor := some i }
    | .trap => { r with trapSensor := i }
    | .condensate => { r with condensateSensor := i }) := by
  have hread : (if ((i.val : Nat) : Int) < 0 then none else sensorOfIndex ((i.val : Nat) : Int).toNat) = some i := by
    rw [if_neg (by omega), Int.toNat_natCast, sensorOfIndex_val]
  have hneg : ¬ ((i.val : Nat) : Int) < 0 := by omega
  unfold withSensorName
  cases m <;> (dsimp only; rw [if_neg hneg, Int.toNat_natCast, sensorOfIndex_val]; rfl)

theorem withSensorName_none (r : Recipe) (m : SensorName) {v : Value} (hv : ∀ i : SensorIx, v ≠ .number i.val)
    (h : m ≠ .lel2 ∨ v ≠ .absent) : withSensorName r m v = none := by
  cases v with
  | number k =>
    have hread : k < 0 ∨ sensorOfIndex k.toNat = none := by
      by_cases hk : k < 0
      · exact .inl hk
      · refine .inr (sensorOfIndex_eq_none ?_)
        by_contra hlt
        exact hv ⟨k.toNat, by omega⟩ (congrArg Value.number (by show k = (k.toNat : Int); omega))
    unfold withSensorName
    rcases hread with hk | hno
    · cases m <;> (dsimp only; rw [if_pos hk])
    · cases m <;> (dsimp only; rw [hno]; exact ite_self _)
  | absent =>
    cases m with
    | lel2 => exact absurd rfl (h.resolve_left fun h => h rfl)
    | _ => rfl
  | _ => cases m <;> rfl

/-! ### Patterns -/

/-- An output of a pattern is set, PWM for N2_PROP alone (R158). -/
theorem withRowDrive_some (row : PatternRow) {x : Output} {d : Drive} (h : d = .pwm → x = .n2Prop) :
    ∃ row', withRowDrive row x d = some row' ∧ ∀ y, rowDrive row' y = if y = x then d else rowDrive row y := by
  cases x with
  | n2Prop => exact ⟨_, rfl, fun y => by cases y <;> rfl⟩
  | _ =>
    cases d with
    | pwm => cases h rfl
    | _ => exact ⟨_, rfl, fun y => by cases y <;> rfl⟩

theorem withRowDrive_pwm (row : PatternRow) {x : Output} (h : x ≠ .n2Prop) : withRowDrive row x .pwm = none := by
  cases x with
  | n2Prop => exact absurd rfl h
  | _ => rfl

theorem withPattern_some (r : Recipe) {p : Phase} (hp : p ≠ .safe) {g : PatternRow → Option PatternRow} {row : PatternRow}
    (h : g (patternOf r p) = some row) :
    ∃ t, withPattern r.patterns p g = some t
      ∧ ∀ q, q ≠ .safe → patternOf { r with patterns := t } q = if q = p then row else patternOf r q := by
  cases p with
  | safe => exact absurd rfl hp
  | _ =>
    refine ⟨_, (congrArg (Option.map _) h), fun q hq => ?_⟩
    cases q <;> rfl

theorem withPattern_none (r : Recipe) {p : Phase} {g : PatternRow → Option PatternRow} (h : p = .safe ∨ g (patternOf r p) = none) :
    withPattern r.patterns p g = none := by
  cases p with
  | safe => rfl
  | _ => exact congrArg (Option.map _) (h.resolve_left (by decide))

/-! ### The commit check -/

/-- SHRED_DRIVE is off in every pattern but that of SHREDDING; SAFE's fixed pattern has it off (R159). -/
theorem shredDrive_off_iff (r : Recipe) : (patternPhases.any fun p => p != .shredding && (patternOf r p).shredDrive) = false ↔
    ∀ p : Phase, p ≠ .shredding → (patternOf r p).shredDrive = false := by
  rw [List.any_eq_false]
  constructor
  · intro h p hp
    have hmem : p = .safe ∨ p ∈ patternPhases := by cases p <;> decide
    rcases hmem with rfl | hmem
    · rfl
    · simpa [hp] using h p hmem
  · intro h p _
    rw [Bool.and_eq_true, bne_iff_ne]
    rintro ⟨hp, hd⟩
    rw [h p hp] at hd
    cases hd

theorem doorLock_on_iff (r : Recipe) :
    ([Phase.sealing, .purging, .shredding, .paused, .condensing, .aborted].any fun p => !(patternOf r p).doorLock) = false ↔
      r.patterns.sealing.doorLock = true ∧ r.patterns.purging.doorLock = true ∧ r.patterns.shredding.doorLock = true
        ∧ r.patterns.paused.doorLock = true ∧ r.patterns.condensing.doorLock = true ∧ r.patterns.aborted.doorLock = true := by
  simp [patternOf]

section
variable {r : Recipe} {lel o2 drive lock : Prop} (hlel : lel ↔ r.lelResume < r.lelPause ∧ r.lelPause < r.lelAbort)
  (ho2 : o2 ↔ r.purgeTarget ≤ r.o2ShredMax ∧ r.o2ShredMax < r.o2Abort)
  (hdrive : drive ↔ ∀ p : Phase, p ≠ .shredding → (patternOf r p).shredDrive = false)
  (hlock : lock ↔ r.patterns.sealing.doorLock = true ∧ r.patterns.purging.doorLock = true ∧ r.patterns.shredding.doorLock = true
    ∧ r.patterns.paused.doorLock = true ∧ r.patterns.condensing.doorLock = true ∧ r.patterns.aborted.doorLock = true)
include hlel ho2 hdrive hlock

/-- The four conditions of a commit, in their order (R159). -/
theorem commitFailure_eq [Decidable lel] [Decidable o2] [Decidable drive] [Decidable lock] : commitFailure r =
    if ¬lel then some .lelOrder else if ¬o2 then some .o2Order else if ¬drive then some .shredDriveOff
    else if ¬lock then some .doorLockOn else none := by
  have h3 : (patternPhases.any fun p => p != .shredding && (patternOf r p).shredDrive) = true ↔ ¬drive := by
    rw [hdrive, ← shredDrive_off_iff, Bool.not_eq_false]
  have h4 : ([Phase.sealing, .purging, .shredding, .paused, .condensing, .aborted].any fun p => !(patternOf r p).doorLock) = true ↔ ¬lock := by
    rw [hlock, ← doorLock_on_iff, Bool.not_eq_false]
  unfold commitFailure
  exact if_congr (not_congr hlel.symm) rfl (if_congr (not_congr ho2.symm) rfl (if_congr h3 rfl (if_congr h4 rfl rfl)))

end

/-- Settles O25: each kind of recipe item, the ranges, and the commit check. -/
theorem recipeWriteAndCommit : Obligations.RecipeWriteAndCommit := by
  refine ⟨fun s f rest h old refused taken hold hrefused htaken => ⟨fun hno => ?_, fun p hi hv => ?_, fun p v hi hv hrange => ?_,
      fun m hi => ⟨fun i hv => ?_, fun hm hv => ?_, fun hv hm => ?_⟩, fun p o hi => ⟨fun hbad => ?_, fun x d hp ho hv hd => ?_⟩⟩,
    fun r row => ⟨rfl, rfl, rfl, rfl, rfl⟩, fun s f rest h r lel o2 drive lock hr hlel ho2 hdrive hlock => ?_⟩
  · rw [hrefused]
    exact exec_recipeWrite_refused h fun i hi => by rw [hno] at hi; cases hi
  · rw [hrefused]
    refine exec_recipeWrite_refused h fun i hi' => ?_
    rw [hi] at hi'
    cases hi'
    cases hval : f.fields.value with
    | number v => exact absurd hval (hv v)
    | _ => rfl
  · have hx : p ≠ .trapMax → 0 ≤ max (paramRange old p).1 (min v (paramRange old p).2) :=
      fun hp => (paramRange_nonneg old hp).trans (le_max_left _ _)
    obtain ⟨h1, h2, h3, h4, h5, h6⟩ := withParam_rest old p (max (paramRange old p).1 (min v (paramRange old p).2))
    refine ⟨_, _, rfl, paramValue_withParam_same old hx, fun q hq hne => paramValue_withParam_other old _ hq hne, fun hp => ?_,
      h1, h2, h3, h4, h5, h6, ?_⟩
    · subst hp
      exact withParam_purgeMax old (hx (by decide))
    · rw [htaken]
      refine exec_recipeWrite_taken h hi ?_
      rw [hv, ← hold, ← clampInt_eq hrange]
      rfl
  · rw [htaken]
    refine exec_recipeWrite_taken h hi ?_
    rw [hv, ← hold]
    exact congrArg (Option.map _) (withSensorName_index old m i)
  · subst hm
    rw [htaken]
    refine exec_recipeWrite_taken h hi ?_
    rw [hv, ← hold]
    rfl
  · rw [hrefused]
    refine exec_recipeWrite_refused h fun i hi' => ?_
    rw [hi] at hi'
    cases hi'
    exact congrArg (Option.map _) (withSensorName_none s.cs.staged m hv hm)
  · rw [hrefused]
    refine exec_recipeWrite_refused h fun i hi' => ?_
    rw [hi] at hi'
    cases hi'
    cases o with
    | none => rfl
    | some x =>
      cases hval : f.fields.value with
      | drive d =>
        refine congrArg (Option.map _) (withPattern_none s.cs.staged ?_)
        rcases hbad with hp | ho | hd | ⟨hd, ho⟩
        · exact .inl hp
        · cases ho
        · exact absurd hval (hd d)
        · rw [hval] at hd
          cases hd
          exact .inr (withRowDrive_pwm _ fun hx => ho (congrArg some hx))
      | _ => rfl
  · subst ho
    obtain ⟨row, hrow, hdrive⟩ := withRowDrive_some (patternOf old p) hd
    obtain ⟨t, ht, hpat⟩ := withPattern_some old hp (g := fun q => withRowDrive q x d) hrow
    refine ⟨t, ?_, fun q y hq => ?_⟩
    · rw [htaken]
      refine exec_recipeWrite_taken h hi ?_
      rw [hv, ← hold]
      exact congrArg (Option.map _) ht
    · rw [hpat q hq]
      by_cases hqp : q = p
      · rw [if_pos hqp, hdrive, hqp]
        exact if_congr (by simp) rfl rfl
      · rw [if_neg hqp, if_neg (fun h => hqp h.1)]
  · classical
    have hbody : bodyOf .recipeCommit .supervisor f (popped s rest) = (match commitFailure s.cs.staged with
        | none => answerDone { popped s rest with cs.commitMark := true } .empty
        | some c => ({ popped s rest with cs.commitMark := false }, { replyRefused .badValue with first := .commitFailed c })) := rfl
    rw [← hr, commitFailure_eq hlel ho2 hdrive hlock] at hbody
    refine ⟨fun ⟨h1, h2, h3, h4⟩ => ?_, fun c hc => ?_⟩
    · simp only [h1, h2, h3, h4, not_true_eq_false, if_false] at hbody
      exact exec_supervisor_done h hbody
    · have hfail : (if ¬lel then some CommitCondition.lelOrder else if ¬o2 then some .o2Order else if ¬drive then some .shredDriveOff
          else if ¬lock then some .doorLockOn else none) = some c := by
        rcases hc with ⟨h1, rfl⟩ | ⟨h1, h2, rfl⟩ | ⟨h1, h2, h3, rfl⟩ | ⟨h1, h2, h3, h4, rfl⟩
        · simp [h1]
        · simp [h1, h2]
        · simp [h1, h2, h3]
        · simp [h1, h2, h3, h4]
      rw [hfail] at hbody
      exact exec_supervisor_frames h hbody

end Sys2Proof.Machine
end

section
/-!
The changes of line state (12.1 to 12.4): Line Start, Line Open, Line Resume, the entry into RUN, and the emergency stop.
-/

namespace Sys2Proof.Machine

variable {s t : State} {f : Frame} {rest : List Frame} {k : ReqKind} {n : Node}

/-! ### What a raised hold and the chamber's phases leave -/

theorem withdrawInlet_frame (s : State) (t : Tag) :
    ∃ (rs : List Record) (u : VesselUnit) (p : SensorPoller), withdrawInlet s t = { s with records := rs, vu := u, sn := p } := by
  unfold withdrawInlet
  split
  · exact ⟨s.records, s.vu, s.sn, rfl⟩
  · split
    · dsimp only
      split
      · split
        · rename_i v _ _
          obtain ⟨u, p, h⟩ := grantAttempt_frame (updVessel (withdrawSample (setStage (leaveQueues s t) t .claimed) (.vessel v)) v
              fun x => { x with state := .idle, bound := none })
            ((updVessel (withdrawSample (setStage (leaveQueues s t) t .claimed) (.vessel v)) v
              fun x => { x with state := .idle, bound := none }).vu.vessels[v].streamClass)
          exact ⟨_, u, p, h⟩
        · exact ⟨_, _, s.sn, rfl⟩
      · exact ⟨_, _, s.sn, rfl⟩
    · exact ⟨s.records, s.vu, s.sn, rfl⟩

/-- A raised hold changes the records, the notices, the vessel unit and the sample requests alone. -/
theorem raiseHold_frame (s : State) (t : Tag) (h : HoldReason) (k : Nat) (a : Option Stage) :
    ∃ (rs : List Record) (lp : LinePort) (u : VesselUnit) (p : SensorPoller),
      raiseHold s t h k a = { s with records := rs, lp := lp, vu := u, sn := p } := by
  unfold raiseHold
  split
  · obtain ⟨rs, u, p, hw⟩ := withdrawInlet_frame s t
    obtain ⟨rs', lp, hh, -⟩ := addHold_frame (withdrawInlet s t) t h k a
    exact ⟨rs', lp, u, p, by rw [hh, hw]⟩
  · exact ⟨s.records, s.lp, s.vu, s.sn, rfl⟩

/-- The entry into ABORTED leaves the line, the zones, the stations and the progress. -/
theorem enterAborted_frame (s : State) (c : PhaseCause) :
    ∃ (rs : List Record) (lp : LinePort) (tu : TimerUnit) (u : VesselUnit) (p : SensorPoller) (cs : Chamber),
      enterAborted s c = { s with records := rs, lp := lp, tu := tu, vu := u, sn := p, cs := cs } := by
  have holds : ∀ (l : List Tag) (s : State), ∃ (rs : List Record) (lp : LinePort) (u : VesselUnit) (p : SensorPoller),
      l.foldl (fun s t => raiseHold s t .chamberAbort 0) s = { s with records := rs, lp := lp, vu := u, sn := p } := by
    intro l
    induction l with
    | nil => exact fun s => ⟨s.records, s.lp, s.vu, s.sn, rfl⟩
    | cons t l ih =>
      intro s
      obtain ⟨rs, lp, u, p, h⟩ := raiseHold_frame s t .chamberAbort 0 none
      obtain ⟨rs', lp', u', p', h'⟩ := ih (raiseHold s t .chamberAbort 0)
      exact ⟨rs', lp', u', p', by rw [List.foldl_cons, h', h]⟩
  obtain ⟨lp, tu, cs, he⟩ := enterPhase_frame (withdrawCondensate (stopChamberChannels s)) .aborted c
  obtain ⟨rs, lp', u, p, hh⟩ := holds (enterPhase (withdrawCondensate (stopChamberChannels s)) .aborted c).cs.batchList
    (enterPhase (withdrawCondensate (stopChamberChannels s)) .aborted c)
  refine ⟨rs, lp', tu, u, p, cs, ?_⟩
  unfold enterAborted
  dsimp only
  rw [hh, he]
  rfl

theorem enterLoading_line (s : State) : (enterLoading s).line = s.line := by
  unfold enterLoading
  split
  · dsimp only
    obtain ⟨lp, tu, cs, g, h⟩ := selectionAttempt_frame (enterPhase { (if s.cs.commitMark = true then { s with cs.working := s.cs.staged, cs.commitMark := false } else s) with
      cs.loadExpired := false, cs.ffCount := 0 } .loading .lineRun)
    obtain ⟨lp', tu', cs', h'⟩ := enterPhase_frame { (if s.cs.commitMark = true then { s with cs.working := s.cs.staged, cs.commitMark := false } else s) with
      cs.loadExpired := false, cs.ffCount := 0 } .loading .lineRun
    rw [h, h']
    show (if s.cs.commitMark = true then { s with cs.working := s.cs.staged, cs.commitMark := false } else s).line = s.line
    split <;> rfl
  · rfl

theorem idleGoesOn_line (s : State) : (idleGoesOn s).line = s.line := by
  unfold idleGoesOn
  split
  · exact enterLoading_line s
  · rfl

theorem enterAborted_line (s : State) (c : PhaseCause) : (enterAborted s c).line = s.line := by
  obtain ⟨rs, lp, tu, u, p, cs, h⟩ := enterAborted_frame s c
  rw [h]

theorem chamberRun_line (s : State) : (chamberRun s).line = s.line := by
  unfold chamberRun
  split
  · split
    · rw [idleGoesOn_line]
      obtain ⟨lp, tu, cs, h⟩ := enterPhase_frame (stopChamberChannels s) .idle .lineResume
      rw [h]
      rfl
    · exact enterAborted_line s _
  · split
    · exact idleGoesOn_line s
    · unfold adoptBatch
      dsimp only
      rw [enterAborted_line, foldl_updRecord]
  · rfl

theorem resumeWindow_line (s : State) (n : Node) : (resumeWindow s n).line = s.line := by
  unfold resumeWindow
  split <;> rfl

theorem grantAttempt_line (s : State) (c : Stream) : (grantAttempt s c).line = s.line := by
  obtain ⟨u, p, h⟩ := grantAttempt_frame s c
  rw [h]

theorem routingAttempt_line (s : State) : (routingAttempt s).line = s.line := by
  rcases routingAttempt_cases s with h | ⟨r, l, -, -, h⟩
  · rw [h]
  · rw [h]
    rfl

theorem foldl_resumeWindow_line (l : List Node) (s : State) : (l.foldl resumeWindow s).line = s.line := by
  induction l generalizing s with
  | nil => rfl
  | cons n l ih => rw [List.foldl_cons, ih, resumeWindow_line]

/-- Settles O26: the three requests, the window's end, and what the entry into RUN consists of. -/
theorem lineStartOpenAndResume : Obligations.LineStartOpenAndResume := by
  have refusal : ∀ {a b : LineState} {e : Bool}, (a ≠ b ∨ e = true ↔ ¬(a = b ∧ e = false)) := by
    intro a b e
    cases e <;> simp
  refine ⟨fun s f rest h => ⟨fun hl he => ?_, fun hbad => exec_supervisor_refused h (if_pos hbad)⟩, fun s =>
    ⟨fun f rest h => ⟨fun hl he => exec_supervisor_done h (if_neg ?_), fun hbad => exec_supervisor_refused h (if_pos hbad)⟩,
      fun f rest h => ⟨fun hl he => exec_supervisor_done h (if_neg ?_), fun hbad => exec_supervisor_refused h (if_pos hbad)⟩,
      fun d hd hl => congrArg Host.Outcome.next ?_, rfl, ?_⟩⟩
  · have hb : bodyOf .lineStart .supervisor f (popped s rest) = answerDone
        { popped s rest with
          tu.reconcile := chStart (s.clock + sec s.cfg.reconcileWindow)
          line := { s.line with state := .reconcile, windowExpired := false } } (.reconcileWindow s.cfg.reconcileWindow) :=
      if_neg (fun hbad => refusal.mp hbad ⟨hl, he⟩)
    have hline : (⟨.reconcile, false, false⟩ : LineElement) = { s.line with state := .reconcile, windowExpired := false } := by rw [← he]
    rw [hline]
    exact exec_supervisor_done h hb
  · exact fun hbad => refusal.mp hbad ⟨hl, he⟩
  · exact fun hbad => refusal.mp hbad ⟨hl, he⟩
  · rw [chDue_of_expiry hd]
    exact if_pos hl
  · unfold enterRun grantBoth
    dsimp only
    rw [routingAttempt_line, grantAttempt_line, grantAttempt_line, chamberRun_line, foldl_resumeWindow_line]

/-! ### RUN at EC and at CS -/

/-- A fold of one idempotent update over tags is one update of the records of those tags. -/
theorem foldl_updRecord_mem {g : Record → Record} (hg : ∀ r, (g r).tag = r.tag) (hgg : ∀ r, g (g r) = g r) (l : List Tag) (s : State) :
    l.foldl (fun s t => updRecord s t g) s = { s with records := s.records.map fun r => if r.tag ∈ l then g r else r } := by
  induction l generalizing s with
  | nil => simp
  | cons t l ih =>
    rw [List.foldl_cons, ih, updRecord_eq]
    simp only [List.map_map]
    refine congrArg (fun rs => { s with records := rs }) (List.map_congr_left fun r _ => ?_)
    simp only [Function.comp_apply, List.mem_cons]
    by_cases ht : r.tag = t
    · simp [ht, hg, hgg]
    · simp [ht]

/-- A change of every record that keeps the tags is a change of what a tag finds. -/
theorem lookup_map {u : State} {g : Record → Record} (hu : u.records = s.records.map g) (hg : ∀ r, (g r).tag = r.tag) (t : Tag) :
    lookup u t = (lookup s t).map g := by
  unfold lookup
  split
  · rfl
  · rw [hu, List.find?_map]
    refine congrArg (Option.map g) (congrFun (congrArg List.find? (funext fun r => ?_)) _)
    simp [hg]

/-- The records of a list with foam class F or U, counted over the records that the tags find. -/
theorem ffCountOf_eq (s : State) (ts : List Tag) : ffCountOf s ts = ((ts.filterMap (lookup s)).filter (·.foamClass != .h)).length := by
  unfold ffCountOf
  induction ts with
  | nil => rfl
  | cons t ts ih =>
    cases hr : lookup s t with
    | none => rw [List.filterMap_cons_none hr, List.filter_cons_of_neg (by simp [hr]), ih]
    | some r =>
      have hcount : countsAsF r.foamClass = (r.foamClass != .h) := by cases r.foamClass <;> rfl
      rw [List.filterMap_cons_some hr]
      by_cases hf : (r.foamClass != .h) = true
      · rw [List.filter_cons_of_pos (by rw [hr, Option.any_some, hcount, hf]), List.filter_cons_of_pos (by simpa using hf), List.length_cons, List.length_cons, ih]
      · rw [List.filter_cons_of_neg (by rw [hr, Option.any_some, hcount]; exact hf), List.filter_cons_of_neg (by simpa using hf), ih]

/-- The foam count reads the tags and foam classes alone. -/
theorem ffCountOf_map {u : State} {g : Record → Record} (hu : u.records = s.records.map g) (hg : ∀ r, (g r).tag = r.tag)
    (hf : ∀ r, (g r).foamClass = r.foamClass) (ts : List Tag) : ffCountOf u ts = ffCountOf s ts := by
  unfold ffCountOf
  refine congrArg List.length (List.filter_congr fun t _ => ?_)
  rw [lookup_map hu hg, Option.any_map]
  exact congrFun (congrArg Option.any (funext fun r => by simp [hf])) _

theorem adoptBatch_eq (s : State) : adoptBatch s = enterAborted { s with
    records := s.records.map fun r => if r.tag ∈ s.zu.chamber then { r with stage := .batched, batch := some (nextBatch s.cs.batchCounter) } else r
    cs.batchCounter := nextBatch s.cs.batchCounter
    cs.batchList := s.zu.chamber
    cs.ffCount := ((s.zu.chamber.filterMap (lookup s)).filter (·.foamClass != .h)).length } .adopted := by
  have hff : ffCountOf { s with records := s.records.map fun r =>
        if r.tag ∈ s.zu.chamber then { r with stage := .batched, batch := some (nextBatch s.cs.batchCounter) } else r }
      s.zu.chamber = ((s.zu.chamber.filterMap (lookup s)).filter (·.foamClass != .h)).length := by
    rw [← ffCountOf_eq]
    exact ffCountOf_map rfl (fun r => by split <;> rfl) (fun r => by split <;> rfl) _
  unfold adoptBatch
  dsimp only
  rw [foldl_updRecord_mem (g := fun r => { r with stage := .batched, batch := some (nextBatch s.cs.batchCounter) }) (fun _ => rfl) (fun _ => rfl),
    hff]

/-- Settles O27: the windows one by one, CS by its phase. -/
theorem runRestartsWindowsAndChamber : Obligations.RunRestartsWindowsAndChamber := by
  refine fun s => ⟨fun n => ⟨fun t hst ht => ?_, fun hst => ?_⟩, fun hl => ⟨fun hp hb => ?_, fun hp hb => ?_, fun hp hc => ?_, fun hp hc => ?_,
    fun h1 h2 => ?_⟩, fun hc => ?_, fun hc => ?_⟩
  · unfold resumeWindow
    rw [hst, ht]
    rfl
  · unfold resumeWindow
    split
    · exact absurd ‹_› hst
    · rfl
  · unfold chamberRun
    rw [hp, hb]
    refine (if_pos rfl).trans (if_pos ?_)
    obtain ⟨lp, tu, cs, h⟩ := enterPhase_frame (stopChamberChannels s) .idle .lineResume
    rw [h]
    exact hl
  · unfold chamberRun
    rw [hp]
    exact if_neg (by simpa using hb)
  · unfold chamberRun
    rw [hp, hc]
    exact if_pos hl
  · refine ⟨_, rfl, ?_⟩
    unfold chamberRun
    rw [hp]
    exact (if_neg (by simpa using hc)).trans (adoptBatch_eq s)
  · unfold chamberRun
    split
    · exact absurd ‹_› h1
    · exact absurd ‹_› h2
    · rfl
  · exact if_neg (by simpa using hc)
  · unfold enterLoading
    rw [hc]
    refine (if_pos rfl).trans ?_
    by_cases hm : s.cs.commitMark = true
    · simp only [if_pos hm]
    · have hm' : s.cs.commitMark = false := by simpa using hm
      simp only [if_neg hm]
      rw [← hm']

end Sys2Proof.Machine
end

section
/-!
The emergency stop (12.1, 2.3, 5.8, 6.4, 6.5, 9.8) and Line Reset (12.4).
-/

namespace Sys2Proof.Machine

variable {s t : State} {f : Frame} {rest : List Frame} {k : ReqKind} {n : Node}

/-! ### The emergency stop -/

/-- What the abandonment of the passages does to each passage channel (R37). -/
theorem passage_closeReleased (l : List Gate) (s : State) (g : Gate) :
    ((l.foldl (fun s g => if (s.zu.gates.get g).state = .released then gateToIdle s g else s) s).tu.passage.get g)
      = if g ∈ l ∧ (s.zu.gates.get g).state = .released then chStopped else s.tu.passage.get g := by
  induction l generalizing s with
  | nil => simp
  | cons x l ih =>
    rw [List.foldl_cons, ih]
    by_cases hx : (s.zu.gates.get x).state = .released
    · rw [if_pos hx]
      by_cases hg : g = x
      · subst hg
        simp [gateToIdle, setPassage, setGate, hx, GateEntry.initial]
      · simp [gateToIdle, setPassage, setGate, GateTab.get_set_other _ hg, hg]
    · rw [if_neg hx]
      by_cases hg : g = x
      · subst hg
        simp [hx]
      · simp [hg]

theorem abandonPassages_frame (s : State) : abandonPassages s =
    { s with zu.gates := (abandonPassages s).zu.gates, tu.passage := (abandonPassages s).tu.passage } := by
  have key : ∀ (l : List Gate) (s : State), ∃ (g : GateTab GateEntry) (p : GateTab Channel),
      l.foldl (fun s g => if (s.zu.gates.get g).state = .released then gateToIdle s g else s) s
        = { s with zu.gates := g, tu.passage := p } := by
    intro l
    induction l with
    | nil => exact fun s => ⟨s.zu.gates, s.tu.passage, rfl⟩
    | cons x l ih =>
      intro s
      rw [List.foldl_cons]
      split
      · obtain ⟨g, p, h⟩ := ih (gateToIdle s x)
        exact ⟨g, p, h⟩
      · exact ih s
  obtain ⟨g, p, h⟩ := key allGates s
  have ha : abandonPassages s = { s with zu.gates := g, tu.passage := p } := h
  rw [ha]

/-- Settles O28: an accepted change of the emergency stop, and what the passages' abandonment leaves. -/
theorem emergencyStopAccepted : Obligations.EmergencyStopAccepted := by
  refine ⟨fun s c x hx hc hheld => ?_, fun s t ht => ?_⟩
  · have hexec : exec (.inputChangeAccepted .estop) s = .next (estopChanged { s with tu.estop := x }) := by
      subst hx
      refine congrArg Host.Outcome.next ?_
      rw [show (getInput s .estop).candidate = some c from hc]
      exact if_pos hheld
    rw [hexec]
    refine ⟨fun hf => congrArg Host.Outcome.next ?_, fun hf => ⟨_, rfl, fun hl => congrArg Host.Outcome.next ?_, fun hl => congrArg Host.Outcome.next ?_⟩⟩
    · refine if_neg ?_
      rw [hx]
      simp [hf]
    all_goals
      have hfx : x.filtered = true := by
        rw [hx]
        simp [hf]
    · exact (if_pos hfx).trans (if_neg hl)
    · exact (if_pos hfx).trans (if_pos hl)
  · subst ht
    refine ⟨abandonPassages_frame s, fun g => ?_⟩
    have hgate := gate_abandonPassages s g
    have hpass := passage_closeReleased allGates s g
    simp only [mem_allGates, true_and] at hpass
    refine ⟨fun h => ?_, fun h => ?_⟩
    · rw [if_pos h] at hgate hpass
      exact ⟨hgate, hpass⟩
    · rw [if_neg h] at hgate hpass
      exact ⟨hgate, hpass⟩

/-! ### EC, VU and CS at the stop -/

theorem stopVessel_other {v : VesselIx} (h1 : s.vu.vessels[v].state ≠ .baseline) (h2 : s.vu.vessels[v].state ≠ .filling) :
    stopVessel s v = s := by
  unfold stopVessel
  dsimp only
  split
  · exact absurd ‹_› h1
  · exact absurd ‹_› h2
  · rfl

theorem stopVessel_filling {v : VesselIx} {t : Tag} {n : Node} (h : s.vu.vessels[v].state = .filling)
    (hb : s.vu.vessels[v].bound = some (t, n)) :
    stopVessel s v = putBack (closeValve s v s.clock) s.vu.vessels[v].streamClass ⟨n, t⟩ := by
  unfold stopVessel
  dsimp only
  rw [h, hb]

theorem putBack_eq (s : State) (c : Stream) (e : InletEntry) : putBack s c e = { s with
    vu := match c with
      | .h => { s.vu with inqH := e :: s.vu.inqH }
      | .f => { s.vu with inqF := e :: s.vu.inqF } } := by
  cases c <;> rfl

/-- VU takes the vessels from the highest index down (R121). -/
theorem transfersStopped_eq (s : State) : transfersStopped s
    = stopVessel (stopVessel (stopVessel (stopVessel (allNodes.foldl stopProgress s) 3) 2) 1) 0 := by
  have hv : allVessels.reverse = [3, 2, 1, 0] := by decide
  unfold transfersStopped
  dsimp only
  rw [hv, List.foldl_cons, List.foldl_cons, List.foldl_cons, List.foldl_cons, List.foldl_nil]

/-- Settles O29: the entries and the vessels one by one, and CS by its phase. -/
theorem stopActsOnTransfersAndChamber : Obligations.StopActsOnTransfersAndChamber := by
  refine fun s => ⟨fun n => ⟨fun t hst ht => ?_, fun hst => ?_, fun h1 h2 h3 => ?_⟩, fun v x hx => ⟨fun t n put hb hput => ⟨fun hst => ?_, fun hst => ?_⟩,
    fun h1 h2 => ?_⟩, ⟨_, rfl, transfersStopped_eq s⟩, fun h => if_pos h, fun h1 h2 => ?_⟩
  · unfold stopProgress
    dsimp only
    rw [hst, ht]
    dsimp only
    rw [setStage, updRecord_eq]
    rfl
  · unfold stopProgress
    dsimp only
    rcases hst with hst | hst
    · rw [hst]
      rfl
    · rw [hst]
      rfl
  · unfold stopProgress
    dsimp only
    split
    · exact absurd ‹_› h1
    · exact absurd ‹_› h2
    · exact absurd ‹_› h3
    · rfl
  · subst hx hput
    unfold stopVessel
    dsimp only
    rw [hst, hb]
    exact putBack_eq ..
  · subst hx hput
    exact (stopVessel_filling hst hb).trans ((congrArg (putBack · _ _) (closeValve_eq ..)).trans (putBack_eq ..))
  · subst hx
    exact stopVessel_other h1 h2
  · exact if_neg fun h => h.elim h1 h2

/-! ### Line Reset -/

/-- The rotation that begins after index 15 takes the entries in index order (R139, R142). -/
theorem nextEnabled_from_last (h : s.sn.lastPolled = 15) : nextEnabled s = allSensors.find? fun i => s.sn.sensors[i].enabled := by
  have hlist : ((List.range 16).map fun k => sensorAfter 15 (k + 1)) = allSensors := by decide
  unfold nextEnabled
  rw [h, hlist]

theorem allSensors_find_some {p : SensorIx → Bool} {i : SensorIx} (h : allSensors.find? p = some i) :
    p i = true ∧ ∀ j, j < i → p j = false := by
  have hlist : allSensors = List.finRange 16 := by decide
  rw [hlist] at h
  obtain ⟨hp, before, after, hsplit, hno⟩ := List.find?_eq_some_iff_append.mp h
  refine ⟨hp, fun j hj => ?_⟩
  have hsorted : (List.finRange 16).Pairwise (· < ·) := by decide
  have hmem : j ∈ before ++ i :: after := hsplit ▸ List.mem_finRange j
  rw [hsplit] at hsorted
  rcases List.mem_append.mp hmem with hb | hb
  · simpa using hno j hb
  · rcases List.mem_cons.mp hb with rfl | ha
    · exact absurd hj (lt_irrefl _)
    · exact absurd ((List.pairwise_cons.mp (List.pairwise_append.mp hsorted).2.1).1 j ha) (lt_asymm hj)

theorem allSensors_find_none {p : SensorIx → Bool} (h : allSensors.find? p = none) (i : SensorIx) : p i = false := by
  have hmem : i ∈ allSensors := by
    have hlist : allSensors = List.finRange 16 := by decide
    rw [hlist]
    exact List.mem_finRange i
  simpa using List.find?_eq_none.mp h i hmem

/-- The sensor block after a Line Reset, by the entry that begins the rotation (R139, R142). -/
theorem sensorsReset_eq (s : State) {first : Option SensorIx} (hf : first = allSensors.find? fun i => s.sn.sensors[i].enabled) :
    sensorsReset s = { s with sn := { s.sn with
      sensors := s.sn.sensors.map fun e => { clearReadings e with faultLatch := false }
      lastPolled := first.getD 15
      slotDue := s.clock + msec s.cfg.slotInterval
      inFlight := first.map fun i => ⟨i, s.sn.sensors[i].address, s.sn.sensors[i].sampleIndex, false⟩
      requests := [], immediate := [], sent := [] } } := by
  have hget : ∀ i : SensorIx, (s.sn.sensors.map fun e => { clearReadings e with faultLatch := false })[i]
      = { clearReadings s.sn.sensors[i] with faultLatch := false } := fun i => by simp
  let u : State := { s with sn := { s.sn with
      sensors := s.sn.sensors.map fun e => { clearReadings e with faultLatch := false }
      lastPolled := 15
      slotDue := s.clock + msec s.cfg.slotInterval
      inFlight := none
      requests := [], immediate := [], sent := [] } }
  have hnext : nextEnabled u = first := by
    rw [nextEnabled_from_last rfl, hf]
    refine congrFun (congrArg List.find? (funext fun i => ?_)) _
    have hen := congrArg Sensor.enabled (hget i)
    exact hen
  have hbegin : sensorsReset s = match nextEnabled u with
      | some i => { u with sn.lastPolled := i, sn.inFlight := some ⟨i, u.sn.sensors[i].address, u.sn.sensors[i].sampleIndex, false⟩ }
      | none => u := rfl
  rw [hbegin, hnext]
  cases first with
  | none => rfl
  | some i =>
    have ha := congrArg Sensor.address (hget i)
    have hi := congrArg Sensor.sampleIndex (hget i)
    show { u with sn.lastPolled := i, sn.inFlight := some ⟨i, u.sn.sensors[i].address, u.sn.sensors[i].sampleIndex, false⟩ } = _
    rw [show u.sn.sensors[i].address = s.sn.sensors[i].address from ha,
      show u.sn.sensors[i].sampleIndex = s.sn.sensors[i].sampleIndex from hi]
    rfl

/-- Settles O30: each block as its chapter leaves it at Line Reset. -/
theorem lineResetReturnsToConfig : Obligations.LineResetReturnsToConfig := by
  intro s f rest h
  obtain ⟨first, hf⟩ : ∃ first, first = allSensors.find? fun i => s.sn.sensors[i].enabled := ⟨_, rfl⟩
  have hreset : lineReset (popped s rest) = _ := (lineReset_eq _).trans (sensorsReset_eq (lineCleared (popped s rest)) hf)
  have hexec := exec_supervisor_done (t := lineReset (popped s rest)) (r := .empty) h rfl
  rw [hreset] at hexec
  refine ⟨_, _, first, hexec, rfl, rfl, fun p => ?_, fun g => ?_, fun n => ?_, fun v => ?_, rfl, rfl, fun i => ?_, fun i hi => ?_, fun hno => ?_,
    rfl, rfl, rfl, fun hoff => ?_, fun hon => ?_, rfl, rfl, rfl, rfl, rfl, rfl, rfl, rfl, rfl, fun g => ?_, rfl, rfl, rfl, rfl⟩
  · cases p with
    | station n => exact congrArg (fun e => e.claim.toList) (getElem_replicate_fin StationEntry.initial n)
    | lane l => cases l <;> rfl
    | _ => rfl
  · cases g with
    | lane l => cases l <;> exact ⟨rfl, rfl⟩
    | feed => exact ⟨rfl, rfl⟩
  · exact ⟨getElem_replicate_fin StationEntry.initial n, getElem_replicate_fin Progress.initial n, getElem_replicate_fin Channel.initial n,
      getElem_replicate_fin StationChannel.initial n⟩
  · refine ⟨?_, getElem_replicate_fin Channel.initial v⟩
    show (s.vu.vessels.map vesselReset)[v] = _
    rw [Fin.getElem_fin, Vector.getElem_map]
    rfl
  · show (s.sn.sensors.map fun e => { clearReadings e with faultLatch := false })[i] = _
    rw [Fin.getElem_fin, Vector.getElem_map]
    rfl
  · exact allSensors_find_some (hf.symm.trans hi)
  · exact allSensors_find_none (hf.symm.trans hno)
  · show resetLevel s.cs.working.patterns.idle.n2Prop _ = false
    rw [hoff]
    rfl
  · show resetLevel s.cs.working.patterns.idle.n2Prop _ = true
    rw [hon]
    rfl
  · show (s.tu.slots.map fun x => if x = .broken then .standing else x).get g = _
    cases g with
    | lane l => cases l <;> rfl
    | feed => rfl

end Sys2Proof.Machine
end

section
/-!
Adopt (R206), Hold, Clear Hold and the dispositions (10.2 to 10.4, 1.5).
-/

namespace Sys2Proof.Machine

variable {s t : State} {f : Frame} {rest : List Frame} {k : ReqKind} {n : Node}

/-! ### The stages and zones an Adopt names -/

@[simp] theorem stageOfCode_stageCode (st : Stage) : stageOfCode (stageCode st) = some st := by
  cases st <;> rfl

theorem stageCode_of {m : Nat} {st : Stage} (h : stageOfCode m = some st) : stageCode st = m := by
  unfold stageOfCode at h
  obtain ⟨hlt, he⟩ := List.getElem?_eq_some_iff.mp h
  match m, hlt with
  | 0, _ | 1, _ | 2, _ | 3, _ | 4, _ | 5, _ | 6, _ | 7, _ | 8, _ => rw [← he]; rfl

theorem stageOfCode_none {m : Nat} (h : 8 < m) : stageOfCode m = none :=
  List.getElem?_eq_none (show stageList.length ≤ m from h)

theorem stageCode_inj {a b : Stage} (h : stageCode a = stageCode b) : a = b := by
  have ha := stageOfCode_stageCode a
  rw [h, stageOfCode_stageCode] at ha
  exact (Option.some.inj ha).symm

theorem adoptPlace_of {p : Place} {st : Stage} (h : namedPlace s f.fields.zoneCode f.fields.node = some p) :
    adoptPlace s f st = if st = .waitInlet ∨ st = .evacuating ∨ st = .vacuumHold then none
      else match p with
        | .chamber => if st = .done1 ∨ st = .batched then some p else none
        | .station _ => if st = .claimed ∨ st = .done1 then some p else none
        | _ => some p := by
  unfold adoptPlace
  rw [h] <;> rfl

/-- An Adopt whose values name no stage or no place is refused (R206). -/
theorem adoptPlace_none {st : Stage} (h : 7 < f.fields.zoneCode ∨ (st = .waitInlet ∨ st = .evacuating ∨ st = .vacuumHold)
    ∨ (f.fields.zoneCode = 6 ∧ st ≠ .done1 ∧ st ≠ .batched)
    ∨ (f.fields.zoneCode = 4 ∧ ∀ n : Node, f.fields.node = nodeNumber n → s.stations[n].kind ≠ some .extract)
    ∨ (f.fields.zoneCode = 4 ∧ st ≠ .claimed ∧ st ≠ .done1)) : adoptPlace s f st = none := by
  cases hp : namedPlace s f.fields.zoneCode f.fields.node with
  | none =>
    unfold adoptPlace
    rw [hp]
  | some p =>
    rw [adoptPlace_of hp]
    rcases h with h | h | ⟨hz, h1, h2⟩ | h | ⟨hz, h1, h2⟩
    · rw [namedPlace_eq_none (.inl h)] at hp
      cases hp
    · exact if_pos h
    · rw [hz] at hp
      cases hp
      simp [h1, h2]
    · rw [namedPlace_eq_none (.inr h)] at hp
      cases hp
    · rw [hz] at hp
      obtain ⟨m, -, hm⟩ := Option.bind_eq_some_iff.mp (show (nodeOf f.fields.node).bind
        (fun n => if s.stations[n].kind = some .extract then some (Place.station n) else none) = some p from hp)
      split at hm
      · cases hm
        simp [h1, h2]
      · cases hm

theorem adoptBody_badValue (hl : s.line.state = .reconcile)
    (h : checkCabinet f.fields.tag f.fields.classCode f.fields.foamCode (adoptCharge f) none = none
      ∨ ∀ st, stageOfCode f.fields.stageCode = some st → adoptPlace s f st = none) :
    adoptBody f s = refuse s .badValue := by
  unfold adoptBody
  rw [if_neg (by rw [hl]; decide)]
  split
  · rename_i c st hc hst
    rcases h with h | h
    · rw [h] at hc
      cases hc
    · rw [h st hst]
  · rfl

theorem adoptBody_read {c : NewCabinet} {st : Stage} {p : Place} (hl : s.line.state = .reconcile)
    (hc : checkCabinet f.fields.tag f.fields.classCode f.fields.foamCode (adoptCharge f) none = some c)
    (hst : stageOfCode f.fields.stageCode = some st) (hp : adoptPlace s f st = some p) :
    adoptBody f s = match adoptRefusal s c p with
      | some why => refuse s why
      | none => answerDone (takeAdopt s c st p) (.occupancy (zoneList (takeAdopt s c st p) p).length) := by
  unfold adoptBody
  rw [if_neg (by rw [hl]; decide), hc, hst]
  dsimp only
  rw [hp] <;> rfl

/-- The adopted record, field by field (R206). -/
theorem adoptedRecord_eq {c : NewCabinet} (hd : c.dwellOverride = none) (st : Stage) (p : Place) (now : Clock) :
    adoptedRecord c st p now =
      { tag := c.tag, enrolledClass := c.cls, cls := c.cls, foamClass := c.foamClass, foamWeight := c.foamWeight
        declaredCharge := c.declaredCharge, stage := st
        station := match p with | .station n => some n | _ => none
        vessel := none, transfers := 0, recovered := 0, verdict := if adoptedAsDone st = true then .unmeasured else .none
        dwellOverride := none, holds := [], reevacUsed := 0, skipCount := 0, enrolStamp := now
        routeStamp := none, done1Stamp := if adoptedAsDone st = true then some now else none, batch := none
        foamShare := none } := by
  unfold adoptedRecord newRecord
  cases p <;> rw [hd]

theorem chamberFoamCount_eq (s : State) (c : FoamClass) : chamberFoamCount s c =
    (s.zu.chamber.filter fun t => (lookup s t).any (·.foamClass != .h)).length + (if c = .h then 0 else 1) := by
  have hcount : countsAsF = (· != .h) := funext fun c => by cases c <;> rfl
  unfold chamberFoamCount ffCountOf
  rw [hcount]
  cases c <;> rfl

section
variable {c : NewCabinet} {p : Place} (hnew : lookup s c.tag = none)
include hnew

theorem adoptRefusal_busy {n : Node} (h : s.stations[n].claim ≠ none) : adoptRefusal s c (.station n) = some .busy :=
  (if_neg (by simp [hnew])).trans (if_pos (Option.isSome_iff_ne_none.mpr h))

theorem adoptRefusal_notEligible (h : s.cs.working.fFoamMax < chamberFoamCount s c.foamClass) :
    adoptRefusal s c .chamber = some .notEligible := by
  simp [adoptRefusal, hnew, h]

/-- The room in the zone decides the rest (R206). -/
theorem adoptRefusal_room (hfree : ∀ n, p = .station n → s.stations[n].claim = none)
    (hfoam : p = .chamber → chamberFoamCount s c.foamClass ≤ s.cs.working.fFoamMax) :
    adoptRefusal s c p = if hasFreePlace s p = true ∧ (p = .chamber → s.zu.chamber.length < s.cs.working.batchSize) then none
      else some .zoneFull := by
  cases p with
  | chamber =>
    have hfoam := hfoam rfl
    by_cases h1 : hasFreePlace s .chamber = true <;> by_cases h2 : s.zu.chamber.length < s.cs.working.batchSize <;>
      simp [adoptRefusal, hnew, h1, h2, Nat.not_lt.mpr hfoam]
  | station n =>
    have hclaim : s.stations[n.val].claim = none := hfree n rfl
    by_cases h1 : hasFreePlace s (.station n) = true <;> simp [adoptRefusal, hnew, h1, hclaim]
  | lane l => by_cases h1 : hasFreePlace s (.lane l) = true <;> simp [adoptRefusal, hnew, h1]
  | intake => by_cases h1 : hasFreePlace s .intake = true <;> simp [adoptRefusal, hnew, h1]
  | buffer => by_cases h1 : hasFreePlace s .buffer = true <;> simp [adoptRefusal, hnew, h1]
  | exit => by_cases h1 : hasFreePlace s .exit = true <;> simp [adoptRefusal, hnew, h1]

end

/-- The free places of each zone (R26). -/
theorem hasFreePlace_iff (s : State) (p : Place) : hasFreePlace s p = true ↔ match p with
    | .intake => s.zu.intake.length < s.cfg.capIntake
    | .lane l => (s.zu.lanes.get l).length + (if (s.zu.gates.get (.lane l)).passing = none then 0 else 1) < s.cfg.capLanes.get l
    | .station n => s.stations[n].claim = none
    | .buffer => s.zu.buffer.length < s.cfg.capBuffer
    | .chamber => s.zu.chamber.length + (if s.zu.gates.feed.passing = none then 0 else 1) < 4
    | .exit => s.zu.exit.length < s.cfg.capExit := by
  unfold hasFreePlace
  rw [decide_eq_true_iff]
  cases p with
  | station n =>
    show (s.stations[n].claim).toList.length < 1 ↔ s.stations[n].claim = none
    cases s.stations[n].claim <;> simp
  | lane l =>
    show _ + (if ((s.zu.gates.get (.lane l)).passing.isSome) = true then 1 else 0) < _ ↔ _
    rw [ite_isSome]
    rfl
  | chamber =>
    show _ + (if (s.zu.gates.feed.passing.isSome) = true then 1 else 0) < _ ↔ _
    rw [ite_isSome]
    rfl
  | intake => exact Iff.rfl
  | buffer => exact Iff.rfl
  | exit => exact Iff.rfl

theorem raiseHold_stations (s : State) (t : Tag) (h : HoldReason) (k : Nat) : (raiseHold s t h k).stations = s.stations := by
  unfold raiseHold
  split
  · rw [addHold_stations, withdrawInlet_stations]
  · rfl

theorem takeAdopt_stations (s : State) (c : NewCabinet) (st : Stage) (n : Node) :
    (takeAdopt s c st (.station n)).stations = (addRecord s (adoptedRecord c st (.station n) s.clock) (.station n)).stations := by
  show (judgeCoverage _ _ _ _).stations = _
  unfold judgeCoverage
  split
  · rfl
  · rw [raiseHold_stations]

/-- Settles O31: the checks in their order, then the record, its place and the coverage. -/
theorem adoptPlacesRecord : Obligations.AdoptPlacesRecord := by
  intro s f rest h refused hrefused
  subst hrefused
  refine ⟨fun hl => exec_supervisor_refused h (if_pos hl), fun hl read hread => ⟨fun hbad => ?_, fun c st p hc hst hz h3 h4 h5 hch hstn => ?_⟩⟩
  · refine exec_supervisor_refused h (adoptBody_badValue (s := popped s rest) hl ?_)
    rcases hbad with hbad | hbad
    · exact .inl (hread.symm.trans hbad)
    · refine .inr fun st hst => ?_
      have hcode := stageCode_of hst
      have hne : ∀ {x : Stage}, f.fields.stageCode ≠ stageCode x → st ≠ x := fun hx e => hx (by rw [← hcode, e])
      have heq : ∀ {x : Stage}, f.fields.stageCode = stageCode x → st = x := fun hx => stageCode_inj (hcode.trans hx)
      refine adoptPlace_none ?_
      rcases hbad with h8 | h7 | h3 | h4 | h5 | ⟨h6, ha, hb⟩ | h4 | ⟨h4, ha, hb⟩
      · rw [stageOfCode_none h8] at hst
        cases hst
      · exact .inl h7
      · exact .inr (.inl (.inl (heq h3)))
      · exact .inr (.inl (.inr (.inl (heq h4))))
      · exact .inr (.inl (.inr (.inr (heq h5))))
      · exact .inr (.inr (.inl ⟨h6, hne ha, hne hb⟩))
      · exact .inr (.inr (.inr (.inl h4)))
      · exact .inr (.inr (.inr (.inr ⟨h4, hne ha, hne hb⟩)))
  · have hplace : adoptPlace (popped s rest) f st = some p := by
      have hnamed : namedPlace (popped s rest) f.fields.zoneCode f.fields.node = some p := by
        rw [hz]
        exact namedPlace_of fun n hn => ⟨(hstn n hn).1, (hstn n hn).2.1⟩
      rw [adoptPlace_of hnamed, if_neg (by simp [h3, h4, h5])]
      cases p with
      | chamber => exact if_pos (hch rfl)
      | station n => exact if_pos (hstn n rfl).2.2
      | _ => rfl
    have hbody := adoptBody_read (s := popped s rest) hl (hread.symm.trans hc) (by rw [hst, stageOfCode_stageCode]) hplace
    have hrefuse : ∀ {why}, adoptRefusal (popped s rest) c p = some why →
        exec .adopt s = .next (answeredWith (popped s rest) (refusedFrame 14 0x29 why)) := by
      intro why hwhy
      rw [hwhy] at hbody
      exact exec_supervisor_refused h hbody
    refine ⟨fun hold => hrefuse (if_pos (Option.isSome_iff_ne_none.mpr hold)), fun hnew held foam taken room hheld hfoam htaken hroom => ?_⟩
    have hnew : lookup (popped s rest) c.tag = none := hnew
    have hfoam : foam = chamberFoamCount (popped s rest) c.foamClass := hfoam.trans (chamberFoamCount_eq (popped s rest) c.foamClass).symm
    refine ⟨fun ht => ?_, fun _ hp hlt => ?_, fun ht hle => ?_⟩
    · obtain ⟨n, rfl, hclaim⟩ := htaken.mp ht
      exact hrefuse (adoptRefusal_busy hnew hclaim)
    · subst hp
      exact hrefuse (adoptRefusal_notEligible hnew (hfoam ▸ hlt))
    · have hfree : ∀ n, p = .station n → (popped s rest).stations[n].claim = none := by
        rintro n rfl
        exact Classical.not_not.mp fun hclaim => ht (htaken.mpr ⟨n, rfl, hclaim⟩)
      have hdecide := adoptRefusal_room hnew hfree fun hp => hfoam ▸ hle hp
      have hroom' : room ↔ hasFreePlace (popped s rest) p = true ∧ (p = .chamber → s.zu.chamber.length < s.cs.working.batchSize) := by
        rw [hroom, hasFreePlace_iff, hheld]
        cases p with
        | station n => simpa using hfree n rfl
        | chamber => exact and_congr Iff.rfl ⟨fun h _ => h, fun h => h rfl⟩
        | _ => exact ⟨fun h => ⟨h, nofun⟩, And.left⟩
      refine ⟨fun hno => hrefuse (hdecide.trans (if_neg fun hyes => hno (hroom'.mpr hyes))), fun hyes => ?_⟩
      rw [hdecide.trans (if_pos (hroom'.mp hyes))] at hbody
      refine ⟨_, _, _, adoptedAsDone st, by simp [adoptedAsDone, or_assoc],
        adoptedRecord_eq (checkCabinet_dwell (hread.symm.trans hc)) st p s.clock, rfl, rfl, ?_⟩
      refine (exec_supervisor_done h hbody).trans (congrArg Host.Outcome.next ?_)
      have hlen : (zoneList (takeAdopt (popped s rest) c st p) p).length = held + 1 := by
        rw [hheld]
        cases p with
        | station n =>
          show ((takeAdopt (popped s rest) c st (.station n)).stations[n].claim).toList.length = _
          rw [takeAdopt_stations]
          simp [addRecord, putTail, updStation, adoptedRecord, newRecord]
        | lane l => simp [takeAdopt, addRecord, putTail, zoneList, adoptedRecord, newRecord]
        | _ => exact List.length_append
      rw [hlen]
      cases p with
      | station n =>
        refine congrArg (answeredWith · _) ?_
        show judgeCoverage (addRecord (popped s rest) _ (.station n)) n c.tag c.cls = _
        unfold judgeCoverage
        have hgranted : (addRecord (popped s rest) (adoptedRecord c st (.station n) (popped s rest).clock) (.station n)).stations[n].granted
            = s.stations[n].granted := by
          simp [addRecord, putTail, updStation]
        rw [hgranted]
        rfl
      | _ => rfl

/-! ### Hold -/

theorem inPassage_iff {t : Tag} : inPassage s t = true ↔ ∃ g : Gate, (s.zu.gates.get g).passing = some t := by
  unfold inPassage
  rw [List.any_eq_true]
  exact ⟨fun ⟨g, _, hg⟩ => ⟨g, eq_of_beq hg⟩, fun ⟨g, hg⟩ => ⟨g, mem_allGates g, beq_iff_eq.mpr hg⟩⟩

theorem tagStage_addHold {t : Tag} {r : Record} {h : HoldReason} {k : Nat} (hr : lookup s t = some r) :
    tagStage (addHold s t h k) t = r.stage := by
  cases hc : carries r h with
  | true =>
    rw [addHold_held fun x hx => by rw [← Option.some.inj (hr.symm.trans hx), hc]]
    exact tagStage_of hr
  | false =>
    obtain ⟨lp, hp⟩ := placeNotice_frame (putHold s t h k) supervisorNode
      (.holdRaised t h k r.stage (placeOf s t) (holdMarks { r with holds := r.holds ++ [⟨h, k, s.clock⟩] }))
    rw [addHold_new hr hc, Option.getD_none, hp]
    have hnew := lookup_updRecord_some (g := fun r => { r with holds := r.holds ++ [⟨h, k, s.clock⟩] }) hr fun _ => rfl
    exact tagStage_of (s := { putHold s t h k with lp := lp }) (r := { r with holds := r.holds ++ [⟨h, k, s.clock⟩] }) hnew

section
variable {tag : Tag} {r : Record} {h : HoldReason} (hr : lookup s tag = some r)
include hr

theorem raiseHold_held (hc : carries r h = true) (k : Nat) : raiseHold s tag h k = s := by
  unfold raiseHold
  refine if_neg fun hn => ?_
  obtain ⟨x, hx, hxc⟩ := isNewHold_iff.mp hn
  rw [Option.some.inj (hx.symm.trans hr), hc] at hxc
  cases hxc

theorem raiseHold_eq (hc : carries r h = false) (k : Nat) : raiseHold s tag h k = addHold (withdrawInlet s tag) tag h k :=
  if_pos (isNewHold_iff.mpr ⟨r, hr, hc⟩)

theorem holdBody_free (htag : tag = f.fields.tag) (hp : inPassage s tag = false) :
    holdBody f s = answerDone (raiseHold s tag .manual 14) (.held (tagStage (raiseHold s tag .manual 14) tag) (carries r .manual)) := by
  subst htag
  unfold holdBody
  dsimp only
  rw [hr]
  dsimp only
  rw [hp]
  rfl

end

/-- Settles O32: MANUAL is raised on a record not in passage, and a waiting inlet is withdrawn first. -/
theorem holdRaisesManual : Obligations.HoldRaisesManual := by
  refine ⟨fun s f rest r h hr => ⟨fun hp => ?_, fun hp => ?_⟩, fun s t h k r hr => ⟨carries_iff, inPassage_iff, fun hc =>
    ⟨raiseHold_held hr hc k, addHold_held fun x hx => by rw [← Option.some.inj (hr.symm.trans hx), hc]⟩, fun hc => ⟨?_, fun hst => ?_⟩⟩⟩
  · refine exec_supervisor_refused h ?_
    show holdBody f (popped s rest) = _
    unfold holdBody
    dsimp only
    rw [lookup_popped, hr]
    exact if_pos hp
  · have hbody := holdBody_free (s := popped s rest) hr rfl hp
    have hexec := fun t r (hb : holdBody f (popped s rest) = answerDone t r) => exec_supervisor_done h hb
    have hraised {w : State} (hw : withdrawInlet (popped s rest) f.fields.tag = w) {x : Record} (hx : lookup w f.fields.tag = some x)
        (hc : carries r .manual = false) :
        exec .hold s = .next (answeredWith (addHold w f.fields.tag .manual 14) (doneFrame 14 0x30 (.held x.stage false))) := by
      rw [raiseHold_eq (s := popped s rest) hr hc, hw, tagStage_addHold hx, hc] at hbody
      exact hexec _ _ hbody
    have hclaimed : lookup (setStage (leaveQueues (popped s rest) f.fields.tag) f.fields.tag .claimed) f.fields.tag
        = some { r with stage := .claimed } :=
      lookup_updRecord_some (s := leaveQueues (popped s rest) f.fields.tag) (g := fun r => { r with stage := .claimed }) hr fun _ => rfl
    refine ⟨fun hc => ?_, fun hc hst => ⟨_, rfl, fun hv => ?_, fun v hb hv => ?_⟩, fun hc hst => ?_⟩
    · rw [raiseHold_held (s := popped s rest) hr hc, tagStage_of (s := popped s rest) hr, hc] at hbody
      exact hexec _ _ hbody
    · refine (hraised (withdrawInlet_queued (s := popped s rest) hr hst hv) hclaimed hc).trans ?_
      rw [setStage, updRecord_eq]
      rfl
    · refine (hraised (withdrawInlet_granted (s := popped s rest) hr hst hb hv) (x := { r with stage := .claimed }) ?_ hc).trans ?_
      · obtain ⟨u, p, hg⟩ := grantAttempt_frame (setStage { popped s rest with
            vu := { s.vu with
              vessels := s.vu.vessels.set v { s.vu.vessels[v] with state := .idle, bound := none }
              inqH := s.vu.inqH.filter (·.tag != f.fields.tag)
              inqF := s.vu.inqF.filter (·.tag != f.fields.tag) }
            sn.requests := s.sn.requests.filter (·.requester != .vessel v)
            sn.immediate := s.sn.immediate.filter (· != .vessel v) } f.fields.tag .claimed) s.vu.vessels[v].streamClass
        refine (congrArg (lookup · f.fields.tag) hg).trans ?_
        exact hclaimed
      · rw [setStage, updRecord_eq]
        rfl
    · refine (hraised (withdrawInlet_of_stage (s := popped s rest) hr hst) hr hc).trans ?_
      rw [addHold_new (s := popped s rest) hr hc, putHold, updRecord_eq]
      rfl
  · rw [addHold_new hr hc, putHold, updRecord_eq]
    rfl
  · rw [raiseHold_eq hr hc, withdrawInlet_of_stage hr hst]

end Sys2Proof.Machine
end

section
/-!
Clear Hold (10.3) and the dispositions (10.4, 1.5).
-/

namespace Sys2Proof.Machine

variable {s t : State} {f : Frame} {rest : List Frame} {k : ReqKind} {n : Node}

/-! ### What the removal of a hold leaves -/

/-- Telling the owner of a last hold reaches the line port, the timers, CS and the gates alone. -/
theorem lastHoldCleared_frame (s : State) (t : Tag) :
    ∃ (lp : LinePort) (tu : TimerUnit) (cs : Chamber) (g : GateTab GateEntry),
      lastHoldCleared s t = { s with lp := lp, tu := tu, cs := cs, zu.gates := g } := by
  have hsame : ∃ (lp : LinePort) (tu : TimerUnit) (cs : Chamber) (g : GateTab GateEntry),
      s = { s with lp := lp, tu := tu, cs := cs, zu.gates := g } := ⟨s.lp, s.tu, s.cs, s.zu.gates, rfl⟩
  unfold lastHoldCleared
  split
  · exact hsame
  · split
    · exact hsame
    · split
      · rcases routingAttempt_cases (s := s) with h | ⟨_, _, -, -, h⟩
        · rw [h]
          exact hsame
        · rw [h]
          exact ⟨s.lp, _, s.cs, _, rfl⟩
      · split
        · exact selectionAttempt_frame s
        · exact hsame

theorem holdMarks_congr {a b : Record} (h : a.holds = b.holds) : holdMarks a = holdMarks b := by
  unfold holdMarks carries
  rw [h]

theorem tagMarks_of {t : Tag} {r : Record} (h : lookup s t = some r) : tagMarks s t = holdMarks r := by
  unfold tagMarks
  rw [h]
  rfl

theorem carries_of_find {r : Record} {h : HoldReason} {e : HoldEntry} (he : r.holds.find? (·.reason == h) = some e) : carries r h = true :=
  carries_iff.mpr ⟨e, List.mem_of_find?_eq_some he, by simpa using List.find?_some he⟩

/-- The record after the removal of a hold. -/
theorem lookup_clearHold {t : Tag} {r : Record} (hr : lookup s t = some r) (h : HoldReason) :
    lookup (clearHold s t h) t = some { r with holds := r.holds.filter (·.reason != h) } := by
  obtain ⟨lp, tu, cs, g, he⟩ := lastHoldCleared_frame (removeHold s t h) t
  refine (congrArg (lookup · t) he).trans ?_
  exact lookup_updRecord_some (g := fun r => { r with holds := r.holds.filter (·.reason != h) }) hr fun _ => rfl

theorem clearHold_boundVessel (s : State) (t : Tag) (h : HoldReason) (x : Tag) : boundVessel (clearHold s t h) x = boundVessel s x := by
  obtain ⟨lp, tu, cs, g, he⟩ := lastHoldCleared_frame (removeHold s t h) t
  exact (congrArg (boundVessel · x) he).trans rfl

theorem clearHold_progress (s : State) (t : Tag) (h : HoldReason) : (clearHold s t h).progress = s.progress := by
  obtain ⟨lp, tu, cs, g, he⟩ := lastHoldCleared_frame (removeHold s t h) t
  exact (congrArg State.progress he).trans rfl

/-- A finished stage 1 leaves the holds of the record. -/
theorem lookup_enterDone1 {t : Tag} {r : Record} (hr : lookup s t = some r) :
    lookup (enterDone1 s t) t = some { r with stage := .done1, done1Stamp := some s.clock } := by
  have hu := lookup_updRecord_some (g := fun r => { r with stage := .done1, done1Stamp := some s.clock }) hr fun _ => rfl
  unfold enterDone1 sendStageDone
  rw [hu]
  dsimp only
  unfold toStation
  split
  · rename_i m _
    obtain ⟨lp, hp⟩ := placeNotice_frame (updRecord s t fun r => { r with stage := .done1, done1Stamp := some s.clock }) (nodeNumber m)
      (.stageDone t r.verdict r.recovered)
    exact (congrArg (lookup · t) hp).trans hu
  · exact hu

/-! ### The acceptance of a LEAK (R100) -/

section
variable {tag : Tag} {r : Record} (hr : lookup s tag = some r)
include hr

theorem acceptLeak_other (h1 : r.stage ≠ .vacuumHold) (h2 : r.stage ≠ .claimed) : acceptLeak s tag = s := by
  unfold acceptLeak
  rw [hr]
  exact if_neg fun h => h.elim h1 h2

theorem acceptLeak_bound (h : r.stage = .vacuumHold ∨ r.stage = .claimed) (hst : r.station = some n) (hb : boundVessel s tag ≠ none) :
    acceptLeak s tag = { s with progress := s.progress.set n ⟨.acceptWait, some tag, none, none, none, none, 0⟩ } := by
  obtain ⟨v, hv⟩ := Option.ne_none_iff_exists'.mp hb
  unfold acceptLeak
  rw [hr]
  dsimp only
  rw [if_pos h, hst, hv]
  rfl

theorem acceptLeak_free (h : r.stage = .vacuumHold ∨ r.stage = .claimed) (hst : r.station = some n) (hb : boundVessel s tag = none) :
    acceptLeak s tag = enterDone1 { s with progress := s.progress.set n ⟨.none, none, none, none, none, none, 0⟩ } tag := by
  unfold acceptLeak
  rw [hr]
  dsimp only
  rw [if_pos h, hst, hb]
  rfl

end

/-! ### The claim returned (R181, R40) -/

theorem atStation_of {t : Tag} (h : placeOf s t = some (.station n)) : atStation s t = some n := by
  unfold atStation
  rw [h]

theorem atStation_none {t : Tag} (h : ∀ n, placeOf s t ≠ some (.station n)) : atStation s t = none := by
  unfold atStation
  split
  · exact absurd ‹_› (h _)
  · rfl

/-- A record at a station position stands in no other list. -/
theorem not_queued_of_station {t : Tag} (h : placeOf s t = some (.station n)) : t ∉ s.zu.intake ∧ t ∉ s.zu.buffer := by
  unfold placeOf at h
  split_ifs at h with h1 h2 h3 h4 h5 h6 h7
  any_goals exact nomatch Option.some.inj h
  exact ⟨by simpa using h1, by simpa using h5⟩

theorem clearStationLost_away {t : Tag} (h : ∀ n, placeOf s t ≠ some (.station n)) : clearStationLost s t = clearHold s t .stationLost := by
  unfold clearStationLost
  rw [atStation_none h]
  rfl

/-- The claim of a lost station is returned to the head of its lane (R40). -/
theorem clearStationLost_returned {t : Tag} {l : Lane} (h : placeOf s t = some (.station n)) (hl : s.stations[n].lane = some l) :
    clearStationLost s t = { s with
      stations := s.stations.set n { s.stations[n] with claim := none }
      zu.lanes := s.zu.lanes.set l (t :: s.zu.lanes.get l)
      records := s.records.map fun x => if x.tag = t then
        { x with holds := x.holds.filter (·.reason != .stationLost), station := none, stage := .routed } else x } := by
  obtain ⟨hi, hb⟩ := not_queued_of_station h
  have hreturned : returnClaim (removeHold s t .stationLost) n l t = { s with
      stations := s.stations.set n { s.stations[n] with claim := none }
      zu.lanes := s.zu.lanes.set l (t :: s.zu.lanes.get l)
      records := s.records.map fun x => if x.tag = t then
        { x with holds := x.holds.filter (·.reason != .stationLost), station := none, stage := .routed } else x } := by
    simp only [returnClaim, removeHold, leavePosition, setStage, putHead, takeOut, updStation, updRecord_eq, List.map_map]
    refine congrArg (fun g => { s with
      stations := s.stations.set n { s.stations[n] with claim := none }
      zu.lanes := s.zu.lanes.set l (t :: s.zu.lanes.get l)
      records := s.records.map g }) (funext fun x => ?_)
    by_cases hx : x.tag = t <;> simp [hx]
  unfold clearStationLost
  rw [atStation_of h]
  show (match s.stations[n].lane.map fun l => (n, l) with
    | some (n, l) => lastHoldCleared (returnClaim (removeHold s t .stationLost) n l t) t
    | none => clearHold s t .stationLost) = _
  rw [hl]
  show lastHoldCleared (returnClaim (removeHold s t .stationLost) n l t) t = _
  rw [hreturned]
  unfold lastHoldCleared
  split
  · rfl
  · split
    · rfl
    · rw [if_neg fun e => hi (List.mem_of_head? e), if_neg (by simpa using hb)]

/-! ### Clear Hold -/

theorem reasonRefusal_stationLost {r : Record} (hc : carries r .stationLost = true) : reasonRefusal s r .stationLost = stationLostRefusal s r.tag :=
  if_pos hc

theorem reasonRefusal_covered {r : Record} (h : ∀ n : Node, placeOf s r.tag = some (.station n) → covers s.stations[n].granted r.cls = true) :
    reasonRefusal s r .classConflict = none := by
  refine if_neg ?_
  unfold conflictStands
  by_cases hs : ∃ n, placeOf s r.tag = some (.station n)
  · obtain ⟨n, hn⟩ := hs
    rw [atStation_of hn, Option.any_some, h n hn]
    decide
  · rw [atStation_none fun n hn => hs ⟨n, hn⟩]
    exact Bool.false_ne_true

section
variable {h : HoldReason} {r : Record} (hh : holdReasonOfCode f.fields.reasonCode = some h) (hr : lookup s f.fields.tag = some r)
include hh hr

theorem clearHoldBody_refused {why : Reason} (hn : h ≠ .chamberAbort) (hw : reasonRefusal s r h = some why) :
    clearHoldBody f s = refuse s why := by
  unfold clearHoldBody
  dsimp only
  rw [hh]
  dsimp only
  rw [hr]
  dsimp only
  rw [if_neg hn, hw]

theorem clearHoldBody_absent (hn : h ≠ .chamberAbort) (hw : reasonRefusal s r h = none) (hc : carries r h = false) :
    clearHoldBody f s = answerDone s (.cleared false r.stage (holdMarks r) 0 0) := by
  have hfind : r.holds.find? (·.reason == h) = none := by
    rw [List.find?_eq_none]
    exact fun x hx hxr => Bool.noConfusion (hc.symm.trans (carries_iff.mpr ⟨x, hx, eq_of_beq hxr⟩))
  unfold clearHoldBody
  dsimp only
  rw [hh]
  dsimp only
  rw [hr]
  dsimp only
  rw [if_neg hn, hw]
  dsimp only
  rw [hfind]

theorem clearHoldBody_carried {e : HoldEntry} (hn : h ≠ .chamberAbort) (hw : reasonRefusal s r h = none)
    (he : r.holds.find? (·.reason == h) = some e) {u : State} (hu : clearReason s f.fields.tag h = u) {r' : Record}
    (hr' : lookup u f.fields.tag = some r') (hholds : r'.holds = r.holds.filter (·.reason != h)) :
    clearHoldBody f s = answerDone u (.cleared true (tagStage u f.fields.tag)
      (holdMarks { r with holds := r.holds.filter (·.reason != h) }) e.raisedBy (min ((s.clock - e.raisedAt).toNat / 1000) 65534)) := by
  have hmarks : tagMarks u f.fields.tag = holdMarks { r with holds := r.holds.filter (·.reason != h) } :=
    (tagMarks_of hr').trans (holdMarks_congr hholds)
  unfold clearHoldBody
  dsimp only
  rw [hh]
  dsimp only
  rw [hr]
  dsimp only
  rw [if_neg hn, hw]
  dsimp only
  rw [he]
  dsimp only
  rw [hu, hmarks]
  rfl

end

theorem holdReasonOfCode_none {m : Nat} (h : 8 ≤ m) : holdReasonOfCode m = none :=
  List.getElem?_eq_none (show reasonList.length ≤ m from h)

/-- Settles O33: the checks of each reason, and what its removal does. -/
theorem clearHoldRemovesReason : Obligations.ClearHoldRemovesReason := by
  refine ⟨fun s f rest hf t refused room ht hroom hrefused => ⟨fun hbad => ?_, fun h hh => ⟨fun hno => ?_, fun r hr => ?_⟩⟩, fun s t h => ⟨?_, ?_⟩⟩
  · subst ht hrefused
    refine exec_supervisor_refused hf ?_
    show clearHoldBody f (popped s rest) = _
    unfold clearHoldBody
    dsimp only
    rw [holdReasonOfCode_none hbad]
  · subst ht hrefused
    refine exec_supervisor_refused hf ?_
    show clearHoldBody f (popped s rest) = _
    unfold clearHoldBody
    dsimp only
    rw [hh]
    dsimp only
    rw [lookup_popped, hno]
  · subst ht hrefused
    have htag : r.tag = f.fields.tag := (lookup_some hr).2.1
    have hr : lookup (popped s rest) f.fields.tag = some r := hr
    have hrefuse {why} (hn : h ≠ .chamberAbort) (hw : reasonRefusal (popped s rest) r h = some why) :
        exec .clearHold s = .next (answeredWith (popped s rest) (refusedFrame 14 0x31 why)) :=
      exec_supervisor_refused hf (clearHoldBody_refused hh hr hn hw)
    refine ⟨fun hab => ?_, fun n hc hp hcov => ?_, fun hn hc hcov => ?_, fun e u cleared he hu hcl => ?_⟩
    · refine exec_supervisor_refused hf ?_
      show clearHoldBody f (popped s rest) = _
      unfold clearHoldBody
      dsimp only
      rw [hh]
      dsimp only
      rw [hr]
      exact if_pos hab
    · subst hc
      refine hrefuse (by decide) (if_pos ?_)
      have hat : atStation (popped s rest) r.tag = some n := atStation_of (s := popped s rest) (htag ▸ hp)
      unfold conflictStands
      rw [hat, Option.any_some]
      exact (congrArg not hcov).trans rfl
    · have hno : reasonRefusal (popped s rest) r h = none := by
        cases h with
        | stationLost => exact if_neg (by rw [hc]; decide)
        | classConflict => exact reasonRefusal_covered (htag ▸ hcov rfl)
        | _ => rfl
      exact exec_supervisor_done hf (clearHoldBody_absent hh hr hn hno hc)
    · have hc : carries r h = true := carries_of_find he
      have hu' : u = clearHold (popped s rest) f.fields.tag h := by
        rw [hu, clearHold, removeHold, updRecord_eq]
        rfl
      have hlookup : lookup u f.fields.tag = some { r with holds := r.holds.filter (·.reason != h) } := by
        rw [hu']
        exact lookup_clearHold hr h
      have hdone {w : State} {r' : Record} (hn : h ≠ .chamberAbort) (hno : reasonRefusal (popped s rest) r h = none)
          (hw : clearReason (popped s rest) f.fields.tag h = w) (hr' : lookup w f.fields.tag = some r')
          (hholds : r'.holds = r.holds.filter (·.reason != h)) : exec .clearHold s = cleared w := by
        rw [hcl]
        exact exec_supervisor_done hf (clearHoldBody_carried hh hr hn hno he hw hr' hholds)
      refine ⟨fun hk => ?_, fun hk hcov => ?_, fun hk => ?_, fun hk => ?_⟩
      · rcases hk with rfl | rfl | rfl | rfl
        all_goals exact hdone (by decide) rfl hu'.symm hlookup rfl
      · subst hk
        exact hdone (by decide) (reasonRefusal_covered (htag ▸ hcov)) hu'.symm hlookup rfl
      · subst hk
        have haccept : clearReason (popped s rest) f.fields.tag .leak = acceptLeak u f.fields.tag := by rw [hu']; rfl
        have hprogress : u.progress = s.progress := by rw [hu', clearHold_progress]; rfl
        have hbound : boundVessel u f.fields.tag = boundVessel s f.fields.tag := by rw [hu', clearHold_boundVessel]; rfl
        refine ⟨fun h1 h2 => ?_, fun n hst hn => ⟨fun hb => ?_, fun hb => ?_⟩⟩
        · exact hdone (by decide) rfl (haccept.trans (acceptLeak_other hlookup h1 h2)) hlookup rfl
        · have hw := haccept.trans (acceptLeak_bound hlookup hst hn (by rw [hbound]; exact hb))
          rw [hprogress] at hw
          exact hdone (by decide) rfl hw hlookup rfl
        · have hw := haccept.trans (acceptLeak_free hlookup hst hn (by rw [hbound]; exact hb))
          rw [hprogress] at hw
          exact hdone (by decide) rfl hw (lookup_enterDone1 (r := { r with holds := r.holds.filter (·.reason != .leak) }) hlookup) rfl
      · subst hk
        have hrefusal : reasonRefusal (popped s rest) r .stationLost = stationLostRefusal (popped s rest) f.fields.tag :=
          (reasonRefusal_stationLost hc).trans (congrArg _ htag)
        refine ⟨fun haway => ?_, fun n hp => ?_⟩
        · refine hdone (by decide) (hrefusal.trans ?_) ((clearStationLost_away (s := popped s rest) haway).trans hu'.symm) hlookup rfl
          unfold stationLostRefusal
          rw [atStation_none (s := popped s rest) haway]
        · have hstands : stationLostRefusal (popped s rest) f.fields.tag =
              if s.stations[n].state = .joined then some .badStage
              else if (boundVessel s f.fields.tag).isSome then some .busy
              else if s.stations[n].lane.any fun l => !hasFreePlace s (.lane l) then some .zoneFull
              else none := by
            unfold stationLostRefusal
            rw [atStation_of (s := popped s rest) hp]
            rfl
          refine ⟨fun hj => hrefuse (by decide) (hrefusal.trans (hstands.trans (if_pos hj))),
            fun hj hb => hrefuse (by decide) (hrefusal.trans (hstands.trans ((if_neg hj).trans (if_pos (Option.isSome_iff_ne_none.mpr hb))))),
            fun l hj hb hl => ?_⟩
          have hfree : hasFreePlace s (.lane l) = true ↔ room l := (hasFreePlace_iff s (.lane l)).trans (hroom l).symm
          have hrest : stationLostRefusal (popped s rest) f.fields.tag = if hasFreePlace s (.lane l) = true then none else some .zoneFull := by
            rw [hstands, if_neg hj, hb, if_neg (by decide), hl]
            show (if (!hasFreePlace s (.lane l)) = true then some Reason.zoneFull else none) = _
            cases hasFreePlace s (.lane l) <;> rfl
          refine ⟨fun hno => hrefuse (by decide) (hrefusal.trans (hrest.trans (if_neg fun hyes => hno (hfree.mp hyes)))), fun hyes => ?_⟩
          refine hdone (r' := { r with holds := r.holds.filter (·.reason != .stationLost), station := none, stage := .routed }) (by decide)
            (hrefusal.trans (hrest.trans (if_pos (hfree.mpr hyes)))) (clearStationLost_returned (s := popped s rest) hp hl) ?_ rfl
          have hupd := lookup_updRecord_some
            (g := fun x => { x with holds := x.holds.filter (·.reason != .stationLost), station := none, stage := .routed }) hr fun _ => rfl
          rw [updRecord_eq] at hupd
          exact hupd
  · unfold lastHoldCleared
    cases lookup s t with
    | none => rfl
    | some r =>
      dsimp only
      cases hh : r.holds <;> simp [isHeld, hh]
  · rw [clearHold, removeHold, updRecord_eq]

end Sys2Proof.Machine
end

section
/-!
Dispose, Retire and Override (10.4, 1.5, 1.4).
-/

namespace Sys2Proof.Machine

variable {s t : State} {f : Frame} {rest : List Frame} {k : ReqKind} {n : Node}

/-! ### Dispose -/

/-- The refusals of a Dispose, by the place the record stands at (R184). -/
theorem disposeRefusal_eq {tag : Tag} {r : Record} {p : Place} (hr : r.tag = tag) (hp : placeOf s tag = some p) : disposeRefusal s r =
    if p = .chamber ∨ p = .exit then some .badStage
    else if inPassage s tag = true ∨ r.stage = .evacuating ∨ boundVessel s tag ≠ none then some .busy
    else if s.zu.exit.length < s.cfg.capExit then none else some .zoneFull := by
  have hroom : hasFreePlace s .exit = decide (s.zu.exit.length < s.cfg.capExit) := rfl
  subst hr
  unfold disposeRefusal
  dsimp only
  rw [hp, hroom]
  simp only [Option.some.injEq]
  refine if_congr Iff.rfl rfl ?_
  cases hpass : inPassage s r.tag with
  | true => simp
  | false =>
    cases hb : boundVessel s r.tag <;> by_cases hlt : s.zu.exit.length < s.cfg.capExit <;> simp [hlt]

/-- A disposal moves the record and then asks for the attempt its place calls for (R185). -/
theorem disposeRecord_eq (s : State) (t : Tag) : disposeRecord s t = match placeOf s t with
    | some .intake => if s.zu.intake.head? == some t then routingAttempt (disposedFrom s (placeOf s t) t) else disposedFrom s (placeOf s t) t
    | some (.lane _) => routingAttempt (disposedFrom s (placeOf s t) t)
    | some .buffer => selectionAttempt (disposedFrom s (placeOf s t) t)
    | _ => disposedFrom s (placeOf s t) t := rfl

theorem disposedFrom_station (s : State) (n : Node) (t : Tag) : disposedFrom s (some (.station n)) t =
    setStage (putTail (leaveQueues (leaveStation s n t) t) .exit t) t .rejected := rfl

theorem routingAttempt_exit (s : State) : (routingAttempt s).zu.exit = s.zu.exit := by
  rcases routingAttempt_cases (s := s) with h | ⟨_, _, -, -, h⟩
  · rw [h]
  · rw [h]
    rfl

theorem selectionAttempt_exit (s : State) : (selectionAttempt s).zu.exit = s.zu.exit := by
  obtain ⟨lp, tu, cs, g, h⟩ := selectionAttempt_frame s
  rw [h]

section
variable {tag : Tag} {r : Record} {p : Place} (hr : lookup s f.fields.tag = some r) (hp : placeOf s f.fields.tag = some p)
include hr hp

theorem disposeBody_refused {why : Reason} (h : (if p = .chamber ∨ p = .exit then some Reason.badStage
    else if inPassage s f.fields.tag = true ∨ r.stage = .evacuating ∨ boundVessel s f.fields.tag ≠ none then some .busy
    else if s.zu.exit.length < s.cfg.capExit then none else some .zoneFull) = some why) : disposeBody f s = refuse s why := by
  unfold disposeBody
  dsimp only
  rw [hr]
  dsimp only
  rw [disposeRefusal_eq (lookup_some hr).2.1 hp, h]

theorem disposeBody_taken (h1 : ¬(p = .chamber ∨ p = .exit))
    (h2 : ¬(inPassage s f.fields.tag = true ∨ r.stage = .evacuating ∨ boundVessel s f.fields.tag ≠ none))
    (h3 : s.zu.exit.length < s.cfg.capExit) {u : State} (hu : disposeRecord s f.fields.tag = u)
    (hexit : u.zu.exit = s.zu.exit ++ [f.fields.tag]) : disposeBody f s = answerDone u (.occupancy (s.zu.exit.length + 1)) := by
  have hlen : u.zu.exit.length = s.zu.exit.length + 1 := by rw [hexit]; exact List.length_append
  unfold disposeBody
  dsimp only
  rw [hr]
  dsimp only
  rw [disposeRefusal_eq (lookup_some hr).2.1 hp, if_neg h1, if_neg h2, if_pos h3]
  dsimp only
  rw [hu, hlen]

end

/-- What a disposal from a station position leaves of the position and its test (R185). -/
theorem leaveStation_eq (s : State) (n : Node) (t : Tag) : leaveStation s n t =
    if s.progress[n].state = .holdWait ∨ s.progress[n].state = .holdOpen ∨ s.progress[n].state = .holdStopped then
      { leavePosition s n t with
        progress := s.progress.set n .initial
        tu.station := s.tu.station.set n ⟨.idle, none, none, none⟩ }
    else leavePosition s n t := by
  have hprogress : (leavePosition s n t).progress[n].state = s.progress[n].state := rfl
  unfold leaveStation
  dsimp only
  rw [hprogress]
  cases s.progress[n].state <;> rfl

theorem disposedFrom_list {p : Place} (h : ∀ n, p ≠ .station n) (t : Tag) : disposedFrom s (some p) t =
    { (takeOut (leaveQueues s t) p t) with
      zu.exit := (takeOut s p t).zu.exit ++ [t]
      records := s.records.map fun x => if x.tag = t then { x with stage := .rejected } else x } := by
  cases p with
  | station n => exact absurd rfl (h n)
  | _ =>
    unfold disposedFrom setStage
    rw [updRecord_eq]
    rfl

/-- Only from a station position does the disposal remove the station field. -/
theorem rejected_elsewhere {p : Place} (h : ∀ n, p ≠ .station n) (t : Tag) :
    (fun x : Record => if x.tag = t then
      { x with stage := .rejected, station := if (∃ n : Node, p = .station n) then none else x.station } else x)
      = fun x => if x.tag = t then { x with stage := .rejected } else x := by
  funext x
  have hno : ¬∃ n : Node, p = .station n := fun hn => hn.elim h
  simp only [if_neg hno]

/-- The record, leaving a position, is rejected there. -/
theorem rejected_station (n : Node) (s : State) (t : Tag) : setStage (leavePosition s n t) t .rejected = { s with
    stations := s.stations.set n { s.stations[n] with claim := none }
    records := s.records.map fun x => if x.tag = t then
      { x with stage := .rejected, station := if (∃ m : Node, Place.station n = .station m) then none else x.station } else x } := by
  simp only [leavePosition, setStage, takeOut, updStation, updRecord_eq, List.map_map]
  refine congrArg (fun g => { s with
    stations := s.stations.set n { s.stations[n] with claim := none }
    records := s.records.map g }) (funext fun x => ?_)
  by_cases hx : x.tag = t <;> simp [hx]

/-! ### Retire and Override -/

theorem effectiveDwell_eq (s : State) (r : Record) : effectiveDwell s r = match r.dwellOverride, r.cls with
    | some seconds, _ => seconds
    | none, .h => s.cfg.dwellH
    | none, .f => s.cfg.dwellF
    | none, _ => 0 := by
  unfold effectiveDwell
  cases r.dwellOverride with
  | some d => rfl
  | none => cases r.cls <;> rfl

/-- Settles O34: the disposal from each zone, the retirement and the override. -/
theorem disposeRetireAndOverride : Obligations.DisposeRetireAndOverride := by
  refine ⟨fun s f rest r p h hr hp => ⟨fun hc => ?_, fun h1 h2 hbusy => ?_, fun h1 h2 h3 h4 h5 => ⟨fun hfull => ?_, fun hroom => ⟨_, rfl, ?_⟩⟩⟩,
    fun s f rest r hr => ⟨fun h => ⟨fun hp => ?_, fun hp => ?_⟩, fun h => ⟨fun hst => ?_, fun h1 h2 h3 => ⟨_, rfl, ?_⟩⟩⟩⟩
  · exact exec_supervisor_refused h (disposeBody_refused (s := popped s rest) hr hp (if_pos hc))
  · exact exec_supervisor_refused h (disposeBody_refused (s := popped s rest) hr hp ((if_neg fun hc => hc.elim h1 h2).trans (if_pos hbusy)))
  · have hfree : ¬(inPassage (popped s rest) f.fields.tag = true ∨ r.stage = .evacuating ∨ boundVessel (popped s rest) f.fields.tag ≠ none) := by
      rintro (hc | hc | hc)
      · exact Bool.noConfusion (h3.symm.trans hc)
      · exact h4 hc
      · exact hc h5
    exact exec_supervisor_refused h (disposeBody_refused (s := popped s rest) hr hp ((if_neg fun hc => hc.elim h1 h2).trans
      ((if_neg hfree).trans (if_neg (Nat.not_lt.mpr hfull)))))
  · have hfree : ¬(inPassage (popped s rest) f.fields.tag = true ∨ r.stage = .evacuating ∨ boundVessel (popped s rest) f.fields.tag ≠ none) := by
      rintro (hc | hc | hc)
      · exact Bool.noConfusion (h3.symm.trans hc)
      · exact h4 hc
      · exact hc h5
    have hp : placeOf (popped s rest) f.fields.tag = some p := hp
    have htaken {u : State} (hu : disposeRecord (popped s rest) f.fields.tag = u) (hexit : u.zu.exit = s.zu.exit ++ [f.fields.tag]) :
        exec .dispose s = .next (answeredWith u (doneFrame 14 0x32 (.occupancy (s.zu.exit.length + 1)))) :=
      exec_supervisor_done h (disposeBody_taken (s := popped s rest) hr hp (fun hc => hc.elim h1 h2) hfree hroom hu hexit)
    have hrecord := disposeRecord_eq (popped s rest) f.fields.tag
    rw [hp] at hrecord
    refine ⟨fun v hpi hv => ?_, fun hpb => ?_, fun l hpl => ?_, fun n hpn => ?_⟩
    · have hne : ∀ n, p ≠ .station n := by rw [hpi]; exact fun _ => nofun
      rw [rejected_elsewhere hne] at hv
      rw [disposedFrom_list hne] at hrecord
      subst hpi hv
      by_cases hhead : s.zu.intake.head? = some f.fields.tag
      · rw [if_pos hhead]
        exact htaken (hrecord.trans (if_pos (beq_iff_eq.mpr hhead))) (routingAttempt_exit _)
      · rw [if_neg hhead]
        exact htaken (hrecord.trans (if_neg (mt eq_of_beq hhead))) rfl
    · have hne : ∀ n, p ≠ .station n := by rw [hpb]; exact fun _ => nofun
      rw [rejected_elsewhere hne]
      rw [disposedFrom_list hne] at hrecord
      subst hpb
      exact htaken hrecord (selectionAttempt_exit _)
    · have hne : ∀ n, p ≠ .station n := by rw [hpl]; exact fun _ => nofun
      rw [rejected_elsewhere hne]
      rw [disposedFrom_list hne] at hrecord
      subst hpl
      exact htaken hrecord (routingAttempt_exit _)
    · subst hpn
      rw [disposedFrom_station, leaveStation_eq] at hrecord
      have hrejected := rejected_station n (popped s rest) f.fields.tag
      have hcond : (popped s rest).progress[n].state = s.progress[n].state := rfl
      rw [hcond] at hrecord
      by_cases hc : s.progress[n].state = .holdWait ∨ s.progress[n].state = .holdOpen ∨ s.progress[n].state = .holdStopped
      · rw [if_pos hc] at hrecord ⊢
        exact htaken (hrecord.trans (congrArg (fun w : State => { w with
          zu.exit := s.zu.exit ++ [f.fields.tag]
          vu.inqH := s.vu.inqH.filter (·.tag != f.fields.tag)
          vu.inqF := s.vu.inqF.filter (·.tag != f.fields.tag)
          progress := s.progress.set n .initial
          tu.station := s.tu.station.set n ⟨.idle, none, none, none⟩ }) hrejected)) rfl
      · rw [if_neg hc] at hrecord ⊢
        exact htaken (hrecord.trans (congrArg (fun w : State => { w with
          zu.exit := s.zu.exit ++ [f.fields.tag]
          vu.inqH := s.vu.inqH.filter (·.tag != f.fields.tag)
          vu.inqF := s.vu.inqF.filter (·.tag != f.fields.tag) }) hrejected)) rfl
  · refine exec_supervisor_refused h ?_
    show retireBody f (popped s rest) = _
    unfold retireBody
    dsimp only
    rw [lookup_popped, hr]
    exact if_neg hp
  · have hr' : lookup (popped s rest) f.fields.tag = some r := hr
    have hretired := retireRecord_some .exit hr'
    obtain ⟨lp, hn⟩ := placeNotice_frame (popped s rest) 14 (dischargeReport (popped s rest) .exit r)
    have hbody : retireBody f (popped s rest) = answerDone
        { placeNotice (popped s rest) 14 (dischargeReport (popped s rest) .exit r) with
          zu.exit := s.zu.exit.filter (· != f.fields.tag)
          records := s.records.filter (·.tag != f.fields.tag) }
        (.occupancy (s.zu.exit.filter (· != f.fields.tag)).length) := by
      unfold retireBody
      dsimp only
      rw [hr']
      dsimp only
      rw [if_pos (show placeOf (popped s rest) f.fields.tag = some .exit from hp), hretired]
      rw [show toSupervisor (popped s rest) _ = placeNotice (popped s rest) 14 _ from rfl, hn]
      rfl
    exact exec_supervisor_done h hbody
  · refine exec_supervisor_refused h ?_
    show overrideBody f (popped s rest) = _
    unfold overrideBody
    dsimp only
    rw [lookup_popped, hr]
    exact if_pos hst
  · have hover : overrideOf f.fields.seconds = if f.fields.seconds = 0 then none else some (max 10 (min f.fields.seconds 600)) := by
      unfold overrideOf
      rw [clampNat_eq (by decide)]
    have hbody : overrideBody f (popped s rest) = answerDone (updRecord (popped s rest) f.fields.tag fun x =>
        { x with dwellOverride := overrideOf f.fields.seconds }) (.dwell (effectiveDwell s { r with dwellOverride := overrideOf f.fields.seconds })) := by
      unfold overrideBody
      dsimp only
      rw [lookup_popped, hr]
      exact if_neg fun hc => hc.elim h1 fun hc => hc.elim h2 h3
    rw [effectiveDwell_eq, updRecord_eq, hover] at hbody
    exact exec_supervisor_done h hbody

end Sys2Proof.Machine
end

section
/-!
Vessel Online and the grant (6.2, 6.3).
-/

namespace Sys2Proof.Machine

variable {s t : State} {f : Frame} {rest : List Frame} {k : ReqKind} {n : Node}

/-! ### Vessel Online -/

theorem mem_allVessels : ∀ v, v ∈ allVessels := by
  decide

theorem scaleTaken_iff {v : VesselIx} : scaleTaken s v = true ↔
    ∃ w : VesselIx, w ≠ v ∧ s.vu.vessels[w].state ≠ .offline ∧ s.vu.vessels[w].scaleSensor = s.vu.vessels[v].scaleSensor := by
  unfold scaleTaken
  rw [List.any_eq_true]
  simp only [Bool.and_eq_true, bne_iff_ne, beq_iff_eq, and_assoc]
  exact ⟨fun ⟨w, _, h⟩ => ⟨w, h⟩, fun ⟨w, h⟩ => ⟨w, mem_allVessels w, h⟩⟩

/-- Settles O35: the checks of R108 in their order, then the vessel in service and a grant attempt. -/
theorem vesselOnlineTaken : Obligations.VesselOnlineTaken := by
  refine fun s f rest h => ⟨fun hv => ?_, fun v e hv he => ?_⟩
  · refine exec_supervisor_refused h ?_
    show vesselOnlineBody f (popped s rest) = _
    unfold vesselOnlineBody
    rw [vesselOfIndex_eq_none hv]
  · subst he
    have hbody : vesselOnlineBody f (popped s rest) = match onlineRefusal s v f.fields.tare with
        | some why => refuse (popped s rest) why
        | none => answerDone (grantAttempt (updVessel (popped s rest) v (onlineVessel f.fields.tare))
              (updVessel (popped s rest) v (onlineVessel f.fields.tare)).vu.vessels[v].streamClass)
            (.vesselOnline v (updVessel (popped s rest) v (onlineVessel f.fields.tare)).vu.vessels[v].streamClass
              (fillLimit (updVessel (popped s rest) v (onlineVessel f.fields.tare)).vu.vessels[v])) := by
      unfold vesselOnlineBody
      rw [hv, vesselOfIndex_val] <;> rfl
    have hrefuse {why} (hw : onlineRefusal s v f.fields.tare = some why) :
        exec .vesselOnline s = .next (answeredWith (popped s rest) (refusedFrame 14 0x35 why)) := by
      rw [hw] at hbody
      exact exec_supervisor_refused h hbody
    refine ⟨fun hst => hrefuse (if_pos hst), fun hst hbad => hrefuse ?_, fun hst htare hen hk hfree => ?_⟩
    · unfold onlineRefusal
      dsimp only
      rw [if_neg (not_not.mpr hst)]
      split
      · rfl
      · split
        · rfl
        · rename_i htare hscale
          obtain ⟨hen, hk⟩ := not_not.mp hscale
          refine if_pos (scaleTaken_iff.mpr (((hbad.resolve_left htare).resolve_left ?_).resolve_left (not_not.mpr hk)))
          rw [hen]
          decide
    · have hno : onlineRefusal s v f.fields.tare = none := by
        unfold onlineRefusal
        dsimp only
        rw [if_neg (not_not.mpr hst), if_neg (Nat.not_lt.mpr htare), if_neg (not_not.mpr ⟨hen, hk⟩)]
        exact if_neg fun ht => (scaleTaken_iff.mp ht).elim fun w hw => hfree w hw.1 hw.2.1 hw.2.2
      rw [hno, updVessel_same] at hbody
      exact exec_supervisor_done h hbody

/-! ### The grant -/

/-- The IDLE vessels of a class. -/
def idleSet (s : State) (c : Stream) : Finset VesselIx :=
  Finset.univ.filter fun v => s.vu.vessels[v].state = .idle ∧ s.vu.vessels[v].streamClass = c

theorem mem_idleSet {c : Stream} {v : VesselIx} : v ∈ idleSet s c ↔ s.vu.vessels[v].state = .idle ∧ s.vu.vessels[v].streamClass = c := by
  simp [idleSet]

theorem mem_idleSet_of_idleVessel {c : Stream} {v : VesselIx} (h : idleVessel s c = some v) : v ∈ idleSet s c := by
  have := List.find?_some h
  rw [Bool.and_eq_true, beq_iff_eq, beq_iff_eq] at this
  exact mem_idleSet.mpr this

theorem idleVessel_none_iff {c : Stream} : idleVessel s c = none ↔ idleSet s c = ∅ := by
  constructor
  · intro h
    refine Finset.eq_empty_of_forall_notMem fun v hv => ?_
    obtain ⟨h1, h2⟩ := mem_idleSet.mp hv
    exact List.find?_eq_none.mp h v (mem_allVessels v) (Bool.and_eq_true_iff.mpr ⟨beq_iff_eq.mpr h1, beq_iff_eq.mpr h2⟩)
  · intro h
    cases hv : idleVessel s c with
    | none => rfl
    | some v =>
      have hmem := mem_idleSet_of_idleVessel hv
      rw [h] at hmem
      exact absurd hmem (Finset.notMem_empty v)

/-- The lowest-numbered IDLE vessel of the class is the one granted. -/
theorem idleVessel_of {c : Stream} {v : VesselIx} (hv : v ∈ idleSet s c) (hlow : ∀ w, w < v → w ∉ idleSet s c) : idleVessel s c = some v := by
  cases hx : idleVessel s c with
  | none =>
    rw [idleVessel_none_iff.mp hx] at hv
    exact absurd hv (Finset.notMem_empty v)
  | some x =>
    have hmem := mem_idleSet_of_idleVessel hx
    obtain ⟨-, as, bs, hl, has⟩ := List.find?_eq_some_iff_append.mp hx
    have hsorted : allVessels.Pairwise (· < ·) := by decide
    have hall := mem_allVessels v
    rw [hl] at hsorted hall
    rcases List.mem_append.mp hall with h | h
    · have hmatch : (s.vu.vessels[v].state == .idle && s.vu.vessels[v].streamClass == c) = true :=
        Bool.and_eq_true_iff.mpr ⟨beq_iff_eq.mpr (mem_idleSet.mp hv).1, beq_iff_eq.mpr (mem_idleSet.mp hv).2⟩
      exact absurd (has v h) (by rw [hmatch]; decide)
    · rcases List.mem_cons.mp h with h | h
      · rw [h]
      · have hlt := (List.pairwise_cons.mp (List.pairwise_append.mp hsorted).2.1).1 v h
        exact absurd hmem (hlow x hlt)

/-- A request is answered at once, unusable, by a disabled or faulty entry (R150). -/
theorem requestSample_eq (s : State) (r : Requester) (i : SensorIx) : requestSample s r i = { s with
    sn := if s.sn.sensors[i].enabled = false ∨ s.sn.sensors[i].state = .fault then { s.sn with immediate := s.sn.immediate ++ [r] }
      else { s.sn with requests := s.sn.requests ++ [⟨r, i⟩] } } := by
  unfold requestSample
  simp only [Bool.or_eq_true, Bool.not_eq_true', beq_iff_eq]
  split <;> rfl

/-- What a grant changes (R112). -/
theorem grant_eq (s : State) (c : Stream) (v : VesselIx) (e : InletEntry) : grant s c v e = { s with
    vu := { (match c with
      | .h => { s.vu with inqH := (inletQueue s c).erase e }
      | .f => { s.vu with inqF := (inletQueue s c).erase e } : VesselUnit) with
        vessels := s.vu.vessels.set v { s.vu.vessels[v] with state := .baseline, bound := some (e.tag, e.node), baselineGross := none } }
    sn := if s.sn.sensors[s.vu.vessels[v].scaleSensor].enabled = false ∨ s.sn.sensors[s.vu.vessels[v].scaleSensor].state = .fault then
        { s.sn with immediate := s.sn.immediate ++ [.vessel v] }
      else { s.sn with requests := s.sn.requests ++ [⟨.vessel v, s.vu.vessels[v].scaleSensor⟩] } } := by
  unfold grant
  dsimp only
  rw [updVessel_same]
  cases c <;> exact requestSample_eq ..

theorem grant_vessels (s : State) (c : Stream) (v : VesselIx) (e : InletEntry) :
    (grant s c v e).vu.vessels = s.vu.vessels.set v { s.vu.vessels[v] with state := .baseline, bound := some (e.tag, e.node), baselineGross := none } := by
  rw [grant_eq]

theorem get_set_fin_ne {α : Type} {n : Nat} (v : Vector α n) {i j : Fin n} (a : α) (h : j ≠ i) : (v.set i a)[j] = v[j] :=
  Vector.getElem_set_ne i.isLt j.isLt fun e => h (Fin.ext e.symm)

/-- A grant takes one vessel from the IDLE ones. -/
theorem idleSet_grant {c : Stream} {v : VesselIx} (hv : v ∈ idleSet s c) (e : InletEntry) :
    (idleSet (grant s c v e) c).card < (idleSet s c).card := by
  refine Finset.card_lt_card ((Finset.ssubset_iff_of_subset fun w hw => ?_).mpr ⟨v, hv, fun hw => ?_⟩)
  · rw [mem_idleSet, grant_vessels] at hw
    rw [mem_idleSet]
    by_cases hwv : w = v
    · subst hwv
      have hbad : VesselState.baseline = .idle := by simpa using hw.1
      cases hbad
    · rw [get_set_fin_ne _ _ hwv] at hw
      exact hw
  · rw [mem_idleSet, grant_vessels] at hw
    have hbad : VesselState.baseline = .idle := by simpa using hw.1
    cases hbad

/-- As many rounds as there are IDLE vessels are enough. -/
theorem grantRounds_succ (c : Stream) : ∀ (k : Nat) (s : State), (idleSet s c).card ≤ k → grantRounds (k + 1) s c = grantRounds k s c
  | 0, s, h => by
    unfold grantRounds
    rw [idleVessel_none_iff.mpr (Finset.card_eq_zero.mp (Nat.le_zero.mp h))]
  | k + 1, s, h => by
    rw [grantRounds]
    conv_rhs => rw [grantRounds]
    cases hv : idleVessel s c with
    | none => rfl
    | some v =>
      cases grantable s c with
      | none => rfl
      | some e => exact grantRounds_succ c k _ (Nat.le_of_lt_succ (Nat.lt_of_lt_of_le (idleSet_grant (mem_idleSet_of_idleVessel hv) e) h))

theorem grantAttempt_none {c : Stream} (h : idleVessel s c = none ∨ grantable s c = none) : grantAttempt s c = s := by
  unfold grantAttempt
  split
  · rw [grantRounds]
    rcases h with h | h
    · rw [h]
    · rw [h]
      cases idleVessel s c <;> rfl
  · rfl

/-- An attempt with a vessel and an entry makes that grant and goes on as an attempt. -/
theorem grantAttempt_grant {c : Stream} {v : VesselIx} {e : InletEntry} (hrun : s.line.state = .run) (hv : idleVessel s c = some v)
    (he : grantable s c = some e) : grantAttempt s c = grantAttempt (grant s c v e) c := by
  have hmem := mem_idleSet_of_idleVessel hv
  have hcard : (idleSet (grant s c v e) c).card ≤ 3 := by
    have hlt := idleSet_grant hmem e
    have hle : (idleSet s c).card ≤ 4 := (Finset.card_le_univ _).trans_eq rfl
    omega
  have hrun' : (grant s c v e).line.state = .run := by
    obtain ⟨u, p, hg⟩ := grant_frame s c v e
    rw [hg]
    exact hrun
  unfold grantAttempt
  rw [if_pos hrun, if_pos hrun', grantRounds_succ c 3 _ hcard, grantRounds, hv, he]

theorem boundVessel_none_iff {t : Tag} : boundVessel s t = none ↔ ∀ (v : VesselIx) (n : Node), s.vu.vessels[v].bound ≠ some (t, n) := by
  unfold boundVessel
  rw [List.find?_eq_none]
  refine ⟨fun h v n hb => h v (mem_allVessels v) (by rw [hb]; exact beq_self_eq_true _), fun h v _ hb => ?_⟩
  obtain ⟨⟨t', n⟩, hbound, rfl⟩ := Option.map_eq_some_iff.mp (eq_of_beq hb)
  exact h v n hbound

/-- Settles O37: the lowest IDLE vessel and the oldest entry not passed over, until there is no such pair. -/
theorem grantGoesToOldestEntry : Obligations.GrantGoesToOldestEntry := by
  refine ⟨fun s c passedOver hover => ?_, fun s t => ⟨boundVessel_none_iff, fun v hv => ?_⟩⟩
  · have hpass : ∀ x : InletEntry, ((boundVessel s x.tag).isNone && !(lookup s x.tag).any isHeld) = true ↔ ¬passedOver s x.tag := by
      intro x
      rw [hover, Bool.and_eq_true, Option.isNone_iff_eq_none, Bool.not_eq_true', not_or, not_not]
      refine and_congr Iff.rfl ⟨fun h => ?_, fun h => ?_⟩
      · rintro ⟨r, hr, hh⟩
        rw [hr] at h
        exact hh (isHeld_false_iff.mp h)
      · rw [Option.any_eq_false]
        exact fun r hr => Bool.eq_false_iff.mpr fun hh => h ⟨r, hr, isHeld_true_iff.mp hh⟩
    refine ⟨fun hrun => if_neg hrun, fun hno => grantAttempt_none ?_, fun v before after e hrun h1 h2 hlow hq he hbefore => ⟨_, rfl, ?_⟩⟩
    · rcases hno with hno | hno
      · left
        rw [idleVessel_none_iff]
        exact Finset.eq_empty_of_forall_notMem fun v hv => hno v (mem_idleSet.mp hv).1 (mem_idleSet.mp hv).2
      · right
        exact List.find?_eq_none.mpr fun x hx hp => (hpass x).mp hp (hno x hx)
    · have hv : idleVessel s c = some v :=
        idleVessel_of (mem_idleSet.mpr ⟨h1, h2⟩) fun w hw hmem => hlow w hw (mem_idleSet.mp hmem).1 (mem_idleSet.mp hmem).2
      have hgrantable : grantable s c = some e := by
        unfold grantable
        rw [List.find?_eq_some_iff_append]
        exact ⟨(hpass e).mpr he, before, after, hq, fun x hx => by
          rw [Bool.not_eq_true', ← Bool.not_eq_true, hpass]
          exact not_not.mpr (hbefore x hx)⟩
      have herase : (inletQueue s c).erase e = before ++ after := by
        rw [hq, List.erase_append_right _ fun hm => he (hbefore e hm), List.erase_cons_head]
      rw [grantAttempt_grant hrun hv hgrantable]
      refine congrArg (grantAttempt · c) ?_
      rw [grant_eq, herase] <;> rfl
  · have hb := List.find?_some hv
    obtain ⟨⟨t', n⟩, hbound, rfl⟩ := Option.map_eq_some_iff.mp (eq_of_beq hb)
    exact ⟨n, hbound⟩

end Sys2Proof.Machine
end

section
/-!
The dwell and the hold window (5.3 to 5.5), and the baseline sample (6.4).
-/

namespace Sys2Proof.Machine

variable {s t : State} {f : Frame} {rest : List Frame} {k : ReqKind} {n : Node}

/-! ### Notices -/

/-- The line port after a notice (R193). -/
def noticed (p : LinePort) (dest : Nat) (body : NoticeBody) : LinePort :=
  if p.notices.length < 16 then { p with notices := p.notices ++ [⟨dest, body⟩] } else p

/-- A notice reads and changes the line port alone. -/
theorem placeNotice_eq (s : State) (dest : Nat) (body : NoticeBody) : placeNotice s dest body = { s with lp := noticed s.lp dest body } := by
  unfold placeNotice noticed
  show (if s.lp.notices.length < 16 then _ else _) = _
  split <;> rfl

/-! ### DONE1 -/

theorem enterDone1_of_station {tag : Tag} {r : Record} (hr : lookup s tag = some r) (hst : r.station = some n) :
    enterDone1 s tag = placeNotice { s with records := s.records.map fun x => if x.tag = tag then
      { x with stage := .done1, done1Stamp := some s.clock } else x } (nodeNumber n) (.stageDone tag r.verdict r.recovered) := by
  unfold enterDone1 sendStageDone
  rw [lookup_updRecord_some (g := fun r => { r with stage := .done1, done1Stamp := some s.clock }) hr fun _ => rfl, updRecord_eq]
  dsimp only
  rw [hst]
  rfl

theorem enterDone1_no_station {tag : Tag} {r : Record} (hr : lookup s tag = some r) (hst : r.station = none) :
    enterDone1 s tag = { s with records := s.records.map fun x => if x.tag = tag then
      { x with stage := .done1, done1Stamp := some s.clock } else x } := by
  unfold enterDone1 sendStageDone
  rw [lookup_updRecord_some (g := fun r => { r with stage := .done1, done1Stamp := some s.clock }) hr fun _ => rfl, updRecord_eq]
  dsimp only
  rw [hst]
  rfl

/-! ### The hold window -/

theorem scDueOpen_event {now o : Clock} {c : StationChannel} (h : c.openEv = some o) : scDueOpen now c = some { c with openEv := none } := by
  unfold scDueOpen
  rw [h]

theorem scDueClose_event {now cl : Clock} {c : StationChannel} (h1 : c.openEv = none) (h2 : c.closeEv = some cl) :
    scDueClose now c = some { c with closeEv := none } := by
  unfold scDueClose
  rw [h1, h2]

/-- EC's judgement of a test at its close (R96, R97). -/
theorem windowClosed_judged {tag : Tag} (hst : s.progress[n].state = .holdOpen) (htag : s.progress[n].tag = some tag) :
    windowClosed s n =
      (let u := sendHoldResult s n tag s.progress[n]
       if testPasses s.progress[n] = true then
         (if boundVessel s tag = none then enterDone1 { u with progress := s.progress.set n .initial } tag
          else { u with progress := s.progress.set n { s.progress[n] with state := .passWait } })
       else raiseHold { u with progress := s.progress.set n .initial } tag .leak 0) := by
  have hclosed : windowClosed s n = if testPasses s.progress[n] = true then
        (if (boundVessel (sendHoldResult s n tag s.progress[n]) tag).isSome then
          updProgress (sendHoldResult s n tag s.progress[n]) n fun p => { p with state := .passWait }
         else finishStage1 (sendHoldResult s n tag s.progress[n]) n tag)
      else raiseHold (clearProgress (sendHoldResult s n tag s.progress[n]) n) tag .leak 0 := by
    unfold windowClosed
    dsimp only
    rw [hst, htag]
  rw [hclosed]
  unfold sendHoldResult
  rw [placeNotice_eq]
  refine if_congr Iff.rfl ?_ rfl
  rw [ite_isSome]
  rfl

theorem testPasses_of {p : Progress} {b l : Nat × Clock} {w : HoldWindow} (hb : p.baseline = some b) (hl : p.last = some l)
    (hw : p.window = some w) (hr : 0 < p.reports) :
    riseOf p = (l.1 : Int) - b.1 ∧ testPasses p = decide ((l.1 : Int) - b.1 ≤ w.riseLimit) := by
  have hrise : riseOf p = (l.1 : Int) - b.1 := by
    unfold riseOf
    rw [hb, hl]
  refine ⟨hrise, ?_⟩
  unfold testPasses
  rw [hw, hrise, decide_eq_true hr]
  rfl

theorem exec_windowClose {cl : Clock} (h1 : s.tu.station[n].openEv = none) (h2 : s.tu.station[n].closeEv = some cl) :
    exec (.windowClose n) s
      = .next (windowClosed { s with tu.station := s.tu.station.set n { s.tu.station[n] with closeEv := none } } n) := by
  show execWindowClose n s = _
  unfold execWindowClose
  rw [scDueClose_event h1 h2]
  rfl

/-- Settles O38: the dwell's end, the window's open and the test's judgement. -/
theorem evacuationTimersAct : Obligations.EvacuationTimersAct := by
  refine ⟨fun s n => ⟨fun d t v hc hst htag hb => ⟨_, rfl, ?_⟩, fun o ho hst => ?_⟩, fun s n cl t b l w h1 h2 hst htag hb hl hw hr => ⟨_, rfl, ?_⟩,
    fun s n cl t h1 h2 hst htag hr hb hl => ?_, fun s t r hr u hu => ⟨fun n hst => ?_, fun hst => ?_⟩⟩
  · show execDwellExpiry n s = _
    unfold execDwellExpiry
    rw [hc, scDueExpiry_pending]
    refine congrArg Host.Outcome.next ?_
    show dwellExpired (setStationChannel s n ⟨.idle, none, none, none⟩) n d = _
    unfold dwellExpired
    rw [show (setStationChannel s n ⟨.idle, none, none, none⟩).progress[n] = s.progress[n] from rfl, hst, htag]
    dsimp only
    rw [show boundVessel (setStationChannel s n ⟨.idle, none, none, none⟩) t = some v from hb]
    dsimp only
    rw [closeValve_eq, setStage, updRecord_eq, placeNotice_eq, placeNotice_eq]
    simp only [startWindow, setStationChannel, updProgress, set_set_fin]
    rfl
  · show execWindowOpen n s = _
    unfold execWindowOpen
    rw [scDueOpen_event ho]
    exact congrArg Host.Outcome.next (if_pos hst)
  · obtain ⟨hrise, hpass⟩ := testPasses_of hb hl hw hr
    rw [exec_windowClose h1 h2]
    refine congrArg Host.Outcome.next ((windowClosed_judged (s := { s with
      tu.station := s.tu.station.set n { s.tu.station[n] with closeEv := none } }) hst htag).trans ?_)
    dsimp only
    unfold sendHoldResult
    rw [hpass, hb, hl, hrise]
    exact if_congr decide_eq_true_iff rfl rfl
  · have hfail : testPasses s.progress[n] = false := by
      unfold testPasses
      rw [hr]
      rfl
    have hrise : riseOf s.progress[n] = 0 := by
      unfold riseOf
      rw [hb]
    rw [exec_windowClose h1 h2]
    refine congrArg Host.Outcome.next ((windowClosed_judged (s := { s with
      tu.station := s.tu.station.set n { s.tu.station[n] with closeEv := none } }) hst htag).trans ?_)
    dsimp only
    unfold sendHoldResult
    rw [hfail, hb, hl, hrise, hr]
    rfl
  · subst hu
    exact enterDone1_of_station hr hst
  · subst hu
    exact enterDone1_no_station hr hst

/-! ### The baseline sample -/

theorem netIsFull_iff {x : Vessel} {net : Int} (h : x.netG = some net) :
    netIsFull x = true ↔ ((x.capacityG * x.fillPm / 1000 : Nat) : Int) ≤ net := by
  unfold netIsFull
  rw [h, Option.any_some, decide_eq_true_iff]
  rfl

/-- A vessel that leaves service at its baseline sample (R114). -/
def endedVessel (x : Vessel) : VesselCause → Vessel
  | .full => { x with state := .full, bound := none }
  | _ => { x with state := .fault, bound := none, faultCause := some .baselineUnusable }

/-- A vessel that found no use for its baseline sample leaves service (R114, R119). -/
theorem baselineEnds_eq {v : VesselIx} {tag : Tag} {x y : Vessel} {cause : VesselCause} (hx : s.vu.vessels[v] = x)
    (hb : x.bound = some (tag, n)) (hy : endedVessel x cause = y) :
    baselineEnds s v cause = grantAttempt (placeNotice { s with
        vu := match x.streamClass with
          | .h => { s.vu with vessels := s.vu.vessels.set v y, inqH := ⟨n, tag⟩ :: s.vu.inqH }
          | .f => { s.vu with vessels := s.vu.vessels.set v y, inqF := ⟨n, tag⟩ :: s.vu.inqF } }
      14 (.vessel v x.streamClass y.state cause tag y.netG (x.capacityG * x.fillPm / 1000) x.bookedTotalG))
      x.streamClass := by
  have hupd : updVessel s v (fun y => endedVessel y cause) = { s with vu.vessels := s.vu.vessels.set v y } := by
    rw [← hy, ← hx]
    rfl
  have hends : baselineEnds s v cause = grantAttempt (sendVessel (putBack (updVessel s v (fun y => endedVessel y cause))
      x.streamClass ⟨n, tag⟩) v cause tag) x.streamClass := by
    subst hx
    unfold baselineEnds
    dsimp only
    rw [hb]
    rfl
  rw [hends, hupd, putBack_eq]
  refine congrArg (grantAttempt · _) ?_
  have hy' : ∀ u : State, u.vu.vessels = s.vu.vessels.set v y → sendVessel u v cause tag
      = placeNotice u 14 (.vessel v x.streamClass y.state cause tag y.netG (x.capacityG * x.fillPm / 1000) x.bookedTotalG) := by
    intro u hu
    have hsame : y.streamClass = x.streamClass ∧ fillLimit y = x.capacityG * x.fillPm / 1000 ∧ y.bookedTotalG = x.bookedTotalG := by
      rw [← hy]
      cases cause <;> exact ⟨rfl, rfl, rfl⟩
    unfold sendVessel
    rw [hu, get_set_fin]
    dsimp only
    rw [hsame.1, hsame.2.1, hsame.2.2]
    rfl
  refine (hy' _ ?_).trans rfl
  cases x.streamClass <;> rfl

theorem vesselAnswer_baseline {v : VesselIx} (h : s.vu.vessels[v].state = .baseline) (g : Option Int) :
    vesselAnswer s v g = baselineAnswer s v g := by
  unfold vesselAnswer
  rw [h]

/-- Settles O39: the valve opens below the fill limit; else the vessel leaves service and its entry is back at the head. -/
theorem baselineSampleOpensTheValve : Obligations.BaselineSampleOpensTheValve := by
  refine ⟨fun s v t n x hx hst hb => ⟨fun g r hr hlt => ?_, fun gross cause y h => ?_⟩, effectiveDwell_eq⟩
  · have htake : takeAnswer s (.vessel v) (some g) = baselineAnswer s v (some g) := vesselAnswer_baseline (by rw [← hx, hst]) _
    rw [htake]
    have hfull : ¬netIsFull { x with netG := some (g - x.tareG) } = true := fun h => absurd ((netIsFull_iff rfl).mp h) (not_le.mpr hlt)
    have hopens : baselineAnswer s v (some g) = openingAtEC (updVessel (updVessel s v fun x => { x with netG := some (g - x.tareG) }) v
        fun x => { x with baselineGross := some g, valve := true, state := .filling }) v n t := by
      unfold baselineAnswer
      dsimp only
      rw [updVessel_same, ← hx, if_neg hfull, hb]
    rw [hopens]
    have hupd : updVessel (updVessel s v fun x => { x with netG := some (g - x.tareG) }) v
        (fun x => { x with baselineGross := some g, valve := true, state := .filling }) = { s with
          vu.vessels := s.vu.vessels.set v { x with netG := some (g - x.tareG), baselineGross := some g, valve := true, state := .filling } } := by
      simp only [updVessel, set_set_fin, get_set_fin, ← hx]
    rw [hupd]
    unfold openingAtEC
    rw [show lookup { s with vu.vessels := s.vu.vessels.set v { x with
      netG := some (g - x.tareG), baselineGross := some g, valve := true, state := .filling } } t = some r from hr]
    dsimp only
    rw [setStage, updRecord_eq]
    have hclass : (s.vu.vessels.set v { x with netG := some (g - x.tareG), baselineGross := some g, valve := true, state := .filling })[v].streamClass
        = x.streamClass := by rw [get_set_fin]
    rw [placeNotice_eq, placeNotice_eq]
    rw [show ∀ d, (setStationChannel (updProgress { s with
        vu.vessels := s.vu.vessels.set v { x with netG := some (g - x.tareG), baselineGross := some g, valve := true, state := .filling }
        records := s.records.map fun y => if y.tag = t then { y with stage := .evacuating } else y } n
          fun _ => { Progress.initial with state := .dwell, tag := some t }) n d).vu.vessels[v].streamClass = x.streamClass from fun _ => hclass]
    rfl
  · have htake : takeAnswer s (.vessel v) gross = baselineAnswer s v gross := vesselAnswer_baseline (by rw [← hx, hst]) _
    rw [htake]
    rcases h with ⟨g, rfl, hfull, rfl, hy⟩ | ⟨rfl, rfl, hy⟩
    · have hends : baselineAnswer s v (some g) = baselineEnds (updVessel s v fun x => { x with netG := some (g - x.tareG) }) v .full := by
        unfold baselineAnswer
        dsimp only
        refine if_pos ?_
        rw [updVessel_same, ← hx, netIsFull_iff rfl]
        exact hfull
      rw [hends]
      have hx' : (updVessel s v fun x => { x with netG := some (g - x.tareG) }).vu.vessels[v] = { x with netG := some (g - x.tareG) } := by
        rw [updVessel_same, ← hx]
      refine (baselineEnds_eq hx' hb (show endedVessel { x with netG := some (g - x.tareG) } .full = y from hy.symm)).trans ?_
      rw [show (updVessel s v fun x => { x with netG := some (g - x.tareG) }).vu.vessels
        = s.vu.vessels.set v { s.vu.vessels[v] with netG := some (g - s.vu.vessels[v].tareG) } from rfl, set_set_fin, hy]
      rfl
    · show baselineEnds s v .baselineUnusable = _
      exact baselineEnds_eq hx.symm hb (show endedVessel x .baselineUnusable = y from hy.symm)

end Sys2Proof.Machine
end

section
/-!
The settle expiry, immediate answers and the final sample (6.4, 7.3).
-/

namespace Sys2Proof.Machine

variable {s t : State} {f : Frame} {rest : List Frame} {k : ReqKind} {n : Node}

theorem exec_immediate {r : Requester} (h : r ∈ s.sn.immediate) :
    exec (.immediateUnusableAnswer r) s = .next (takeAnswer { s with sn.immediate := s.sn.immediate.erase r } r none) := by
  show Host.Outcome.next (immediateAnswer s r) = _
  unfold immediateAnswer
  rw [if_pos (by simpa using h)]

/-- Settles O41: the settle expiry asks for the final sample, and an immediate answer is unusable. -/
theorem settleAndImmediateAnswer : Obligations.SettleAndImmediateAnswer := by
  refine fun s v => ⟨fun d hd hst => ?_, fun t n him hst hb => ⟨_, rfl, ?_⟩, fun r => exec_immediate, fun r hr => ?_⟩
  · show execSettleExpiry v s = _
    unfold execSettleExpiry
    rw [chDue_of_expiry hd]
    refine congrArg Host.Outcome.next ((if_pos hst).trans ?_)
    rw [requestSample_eq]
    rfl
  · rw [exec_immediate him]
    refine congrArg Host.Outcome.next ?_
    have htake : takeAnswer { s with sn.immediate := s.sn.immediate.erase (.vessel v) } (.vessel v) none
        = baselineEnds { s with sn.immediate := s.sn.immediate.erase (.vessel v) } v .baselineUnusable :=
      vesselAnswer_baseline (s := { s with sn.immediate := s.sn.immediate.erase (.vessel v) }) hst none
    rw [htake]
    exact baselineEnds_eq (s := { s with sn.immediate := s.sn.immediate.erase (.vessel v) }) (x := s.vu.vessels[v]) rfl hb
      (show endedVessel s.vu.vessels[v] .baselineUnusable = _ from rfl)
  · show Host.Outcome.next (immediateAnswer s r) = _
    unfold immediateAnswer
    rw [if_neg (by simpa using hr)]

/-! ### What the hold of a booking leaves -/

/-- A vessel that is not IDLE is not granted. -/
theorem grantAttempt_vessel {v : VesselIx} (h : s.vu.vessels[v].state ≠ .idle) (c : Stream) :
    (grantAttempt s c).vu.vessels[v] = s.vu.vessels[v] := by
  have rounds : ∀ (k : Nat) (s : State), s.vu.vessels[v].state ≠ .idle → (grantRounds k s c).vu.vessels[v] = s.vu.vessels[v] := by
    intro k
    induction k with
    | zero => exact fun s _ => rfl
    | succ k ih =>
      intro s hs
      rw [grantRounds]
      split
      · rename_i w e hw _
        have hne : v ≠ w := fun hvw => hs (hvw ▸ (mem_idleSet.mp (mem_idleSet_of_idleVessel hw)).1)
        have hkeep : (grant s c w e).vu.vessels[v] = s.vu.vessels[v] := by
          rw [grant_vessels, get_set_fin_ne _ _ hne]
        rw [ih _ (by rw [hkeep]; exact hs), hkeep]
      · rfl
  unfold grantAttempt
  split
  · exact rounds 4 s h
  · rfl

/-- A vessel that is neither IDLE nor in BASELINE is not touched by an inlet withdrawn. -/
theorem withdrawInlet_vessel {v : VesselIx} (h1 : s.vu.vessels[v].state ≠ .idle) (h2 : s.vu.vessels[v].state ≠ .baseline) (t : Tag) :
    (withdrawInlet s t).vu.vessels[v] = s.vu.vessels[v] := by
  cases hr : lookup s t with
  | none =>
    unfold withdrawInlet
    rw [hr]
  | some r =>
    by_cases hst : r.stage = .waitInlet
    · by_cases hv : ∀ w, boundVessel s t = some w → s.vu.vessels[w].state ≠ .baseline
      · rw [withdrawInlet_queued hr hst hv]
        rfl
      · obtain ⟨w, hw⟩ := not_forall.mp hv
        obtain ⟨hb, hst'⟩ := Classical.not_imp.mp hw
        have hne : v ≠ w := fun hvw => h2 (hvw ▸ not_not.mp hst')
        rw [withdrawInlet_granted hr hst hb (not_not.mp hst')]
        have hkeep : (s.vu.vessels.set w { s.vu.vessels[w] with state := .idle, bound := none })[v] = s.vu.vessels[v] :=
          get_set_fin_ne _ _ hne
        refine (grantAttempt_vessel ?_ _).trans hkeep
        exact fun hidle => h1 ((congrArg Vessel.state hkeep).symm.trans hidle)
    · rw [withdrawInlet_of_stage hr hst]

theorem raiseHold_vessel {v : VesselIx} (h1 : s.vu.vessels[v].state ≠ .idle) (h2 : s.vu.vessels[v].state ≠ .baseline) (t : Tag)
    (h : HoldReason) (k : Nat) (a : Option Stage) : (raiseHold s t h k a).vu.vessels[v] = s.vu.vessels[v] := by
  unfold raiseHold
  split
  · obtain ⟨rs, p, hadd, -⟩ := addHold_frame (withdrawInlet s t) t h k a
    rw [hadd]
    exact withdrawInlet_vessel h1 h2 t
  · rfl

/-- What a hold keeps of its record: the verdict, and whether it is in VACUUM_HOLD. -/
def KeepsVerdict (r r' : Record) : Prop := r'.verdict = r.verdict ∧ (r'.stage = .vacuumHold ↔ r.stage = .vacuumHold)

theorem lookup_withdrawInlet {tag : Tag} {r : Record} (hr : lookup s tag = some r) :
    ∃ r', lookup (withdrawInlet s tag) tag = some r' ∧ KeepsVerdict r r' := by
  by_cases hst : r.stage = .waitInlet
  · have hclaimed : ∀ u : State, u.records = s.records → lookup (setStage u tag .claimed) tag = some { r with stage := .claimed } := by
      intro u hu
      refine lookup_updRecord_some (g := fun r => { r with stage := .claimed }) ?_ fun _ => rfl
      unfold lookup at hr ⊢
      rw [hu]
      exact hr
    refine ⟨{ r with stage := .claimed }, ?_, rfl, ?_⟩
    · by_cases hv : ∀ w, boundVessel s tag = some w → s.vu.vessels[w].state ≠ .baseline
      · rw [withdrawInlet_queued hr hst hv]
        exact hclaimed _ rfl
      · obtain ⟨w, hw⟩ := not_forall.mp hv
        obtain ⟨hb, hst'⟩ := Classical.not_imp.mp hw
        rw [withdrawInlet_granted hr hst hb (not_not.mp hst')]
        obtain ⟨u, p, hg⟩ := grantAttempt_frame (setStage { s with
          vu := { s.vu with
            vessels := s.vu.vessels.set w { s.vu.vessels[w] with state := .idle, bound := none }
            inqH := s.vu.inqH.filter (·.tag != tag)
            inqF := s.vu.inqF.filter (·.tag != tag) }
          sn.requests := s.sn.requests.filter (·.requester != .vessel w)
          sn.immediate := s.sn.immediate.filter (· != .vessel w) } tag .claimed) s.vu.vessels[w].streamClass
        refine (congrArg (lookup · tag) hg).trans ?_
        exact hclaimed _ rfl
    · rw [hst]
      exact ⟨nofun, nofun⟩
  · rw [withdrawInlet_of_stage hr hst]
    exact ⟨r, hr, rfl, Iff.rfl⟩

theorem lookup_raiseHold {tag : Tag} {r : Record} (hr : lookup s tag = some r) (h : HoldReason) (k : Nat) (a : Option Stage) :
    ∃ r', lookup (raiseHold s tag h k a) tag = some r' ∧ KeepsVerdict r r' := by
  unfold raiseHold
  split
  · obtain ⟨r', hr', hverdict, hstage⟩ := lookup_withdrawInlet hr
    cases hc : carries r' h with
    | true =>
      rw [addHold_held fun x hx => by rw [← Option.some.inj (hr'.symm.trans hx), hc]]
      exact ⟨r', hr', hverdict, hstage⟩
    | false =>
      refine ⟨{ r' with holds := r'.holds ++ [⟨h, k, (withdrawInlet s tag).clock⟩] }, ?_, hverdict, hstage⟩
      rw [addHold_new hr' hc, placeNotice_eq]
      exact lookup_updRecord_some (g := fun r => { r with holds := r.holds ++ [⟨h, k, (withdrawInlet s tag).clock⟩] }) hr' fun _ => rfl
  · exact ⟨r, hr, rfl, Iff.rfl⟩

theorem raiseHold_progress (s : State) (t : Tag) (h : HoldReason) (k : Nat) (a : Option Stage) : (raiseHold s t h k a).progress = s.progress := by
  obtain ⟨rs, lp, u, p, hf⟩ := raiseHold_frame s t h k a
  rw [hf]

/-! ### The end of a booking -/

theorem bookingBringsDone1_iff {tag : Tag} {r : Record} (hr : lookup s tag = some r) : bookingBringsDone1 s n tag = true ↔
    s.progress[n].tag = some tag ∧ (s.progress[n].state = .acceptWait ∨ (s.progress[n].state = .passWait ∧ r.stage = .vacuumHold)) := by
  unfold bookingBringsDone1
  dsimp only
  rw [hr, Option.any_some]
  simp only [Bool.and_eq_true, Bool.or_eq_true, beq_iff_eq]

theorem enterDone1_vu (s : State) (t : Tag) : (enterDone1 s t).vu = s.vu := by
  unfold enterDone1 sendStageDone
  split
  · unfold toStation
    split
    · rw [placeNotice_eq]
      rfl
    · rfl
  · rfl

/-- What follows a booking: the way to DONE1, and a grant attempt for the class of the vessel (R117). -/
theorem afterBooking_eq (s : State) (v : VesselIx) (n : Node) (t : Tag) : afterBooking s v n t = grantAttempt
    (if bookingBringsDone1 s n t = true then enterDone1 { s with progress := s.progress.set n ⟨.none, none, none, none, none, none, 0⟩ } t else s)
    s.vu.vessels[v].streamClass := by
  unfold afterBooking
  dsimp only
  by_cases h : bookingBringsDone1 s n t = true
  · rw [if_pos h, if_pos h]
    show grantAttempt (enterDone1 (clearProgress s n) t) (enterDone1 (clearProgress s n) t).vu.vessels[v].streamClass = _
    rw [enterDone1_vu]
    rfl
  · rw [if_neg h, if_neg h]

section
variable {v : VesselIx} {tag : Tag} {x : Vessel} {r : Record} (hx : x = s.vu.vessels[v]) (hst : x.state = .final)
  (hb : x.bound = some (tag, n)) (hr : lookup s tag = some r)
include hx hst hb

theorem takeAnswer_final (g : Option Int) : takeAnswer s (.vessel v) g = match g with
    | some g => measuredBooking s v tag n g
    | none => unmeasuredBooking s v tag n := by
  subst hx
  show vesselAnswer s v g = _
  unfold vesselAnswer
  rw [hst]
  show finalAnswer s v g = _
  unfold finalAnswer
  rw [hb]
  cases g <;> rfl

end

/-- The holds that a measured booking raises (R128, R133). -/
def bookedHolds (u : State) (tag : Tag) (low above : Prop) [Decidable low] [Decidable above] (after : Option Stage) : State :=
  let a := if low then raiseHold u tag .scaleFault 0 after else u
  if above then raiseHold a tag .overYield 0 after else a

section
variable {u : State} {v : VesselIx} {tag : Tag} {r : Record} {low above : Prop} [Decidable low] [Decidable above] {after : Option Stage}

theorem bookedHolds_vessel (h1 : u.vu.vessels[v].state ≠ .idle) (h2 : u.vu.vessels[v].state ≠ .baseline) :
    (bookedHolds u tag low above after).vu.vessels[v] = u.vu.vessels[v] := by
  have hraise : ∀ w : State, w.vu.vessels[v] = u.vu.vessels[v] → ∀ h, (raiseHold w tag h 0 after).vu.vessels[v] = u.vu.vessels[v] := by
    intro w hw h
    rw [raiseHold_vessel (by rw [hw]; exact h1) (by rw [hw]; exact h2), hw]
  unfold bookedHolds
  dsimp only
  split
  · split
    · exact hraise _ (hraise _ rfl _) _
    · exact hraise _ rfl _
  · split
    · exact hraise _ rfl _
    · rfl

theorem bookedHolds_progress : (bookedHolds u tag low above after).progress = u.progress := by
  unfold bookedHolds
  dsimp only
  split
  · rw [raiseHold_progress]
    split
    · rw [raiseHold_progress]
    · rfl
  · split
    · rw [raiseHold_progress]
    · rfl

theorem KeepsVerdict.trans {a b c : Record} (h : KeepsVerdict a b) (h' : KeepsVerdict b c) : KeepsVerdict a c :=
  ⟨h'.1.trans h.1, h'.2.trans h.2⟩

theorem lookup_bookedHolds (hr : lookup u tag = some r) :
    ∃ r', lookup (bookedHolds u tag low above after) tag = some r' ∧ KeepsVerdict r r' := by
  have hraise : ∀ (w : State) (h : HoldReason), (∃ r', lookup w tag = some r' ∧ KeepsVerdict r r') →
      ∃ r', lookup (raiseHold w tag h 0 after) tag = some r' ∧ KeepsVerdict r r' := by
    rintro w h ⟨r', hr', hk⟩
    obtain ⟨r'', hr'', hk'⟩ := lookup_raiseHold hr' h 0 after
    exact ⟨r'', hr'', hk.trans hk'⟩
  have hself : ∃ r', lookup u tag = some r' ∧ KeepsVerdict r r' := ⟨r, hr, rfl, Iff.rfl⟩
  unfold bookedHolds
  dsimp only
  split
  · split
    · exact hraise _ _ (hraise _ _ hself)
    · exact hraise _ _ hself
  · split
    · exact hraise _ _ hself
    · exact hself

end

/-- The vessel and the record of a measured booking (R117, R127, R129). -/
def bookedState (s : State) (v : VesselIx) (tag : Tag) (x : Vessel) (g b : Int) : State :=
  { s with
    vu.vessels := s.vu.vessels.set v { x with netG := some (g - x.tareG), bookedTotalG := addBooked x.bookedTotalG (g - b) }
    records := s.records.map fun y => if y.tag = tag then bookMeasured s.cfg v (g - b) y else y }

theorem bookedState_vessel (s : State) (v : VesselIx) (tag : Tag) (x : Vessel) (g b : Int) : (bookedState s v tag x g b).vu.vessels[v]
    = { x with netG := some (g - x.tareG), bookedTotalG := addBooked x.bookedTotalG (g - b) } := by
  unfold bookedState
  exact get_set_fin ..

theorem lookup_bookedState {tag : Tag} {r : Record} (hr : lookup s tag = some r) (v : VesselIx) (x : Vessel) (g b : Int) :
    lookup (bookedState s v tag x g b) tag = some (bookMeasured s.cfg v (g - b) r) := by
  have hupd := lookup_updRecord_some (g := bookMeasured s.cfg v (g - b)) hr fun _ => rfl
  rw [updRecord_eq] at hupd
  exact hupd

/-- A measured booking, in steps (R117): the vessel and the record booked, the holds, the vessel unbound. -/
theorem measuredBooking_eq {v : VesselIx} {tag : Tag} {x : Vessel} {r : Record} {g b : Int} {u : State} {low above : Prop}
    [Decidable low] [Decidable above] (hx : s.vu.vessels[v] = x) (hb : x.baselineGross = some b) (hr : lookup s tag = some r)
    (hu : u = bookedState s v tag x g b)
    (hlow : low ↔ g - b < -(s.cfg.negTolerance : Int)) (hover : above ↔ (bookMeasured s.cfg v (g - b) r).verdict = .over) :
    measuredBooking s v tag n g =
      (let w := bookedHolds u tag low above (stageAfterBooking s n tag)
       let c := unbind w v (if netIsFull w.vu.vessels[v] then .full else .idle) none
       afterBooking (if netIsFull w.vu.vessels[v] then sendVessel c v .full tag else c) v n tag) := by
  have hdelta : g - (s.vu.vessels[v].baselineGross.getD g) = g - b := by rw [hx, hb]; rfl
  have hbooked : updRecord (updVessel s v fun x => { x with netG := some (g - x.tareG), bookedTotalG := addBooked x.bookedTotalG (g - b) })
      tag (bookMeasured s.cfg v (g - b)) = u := by
    rw [hu, updRecord_eq, ← hx]
    rfl
  have hlookup : lookup u tag = some (bookMeasured s.cfg v (g - b) r) := by
    rw [← hbooked]
    exact lookup_updRecord_some (s := updVessel s v fun x => { x with netG := some (g - x.tareG), bookedTotalG := addBooked x.bookedTotalG (g - b) })
      hr fun _ => rfl
  have hholds : (let a := if g - b < -(s.cfg.negTolerance : Int) then raiseHold u tag .scaleFault 0 (stageAfterBooking s n tag) else u
      if (lookup a tag).any (fun r => r.verdict == .over) then raiseHold a tag .overYield 0 (stageAfterBooking s n tag) else a)
      = bookedHolds u tag low above (stageAfterBooking s n tag) := by
    have hfirst : (if g - b < -(s.cfg.negTolerance : Int) then raiseHold u tag .scaleFault 0 (stageAfterBooking s n tag) else u)
        = if low then raiseHold u tag .scaleFault 0 (stageAfterBooking s n tag) else u := if_congr hlow.symm rfl rfl
    unfold bookedHolds
    dsimp only
    rw [hfirst]
    refine if_congr ?_ rfl rfl
    obtain ⟨r', hr', hverdict, -⟩ : ∃ r', lookup (if low then raiseHold u tag .scaleFault 0 (stageAfterBooking s n tag) else u) tag = some r'
        ∧ KeepsVerdict (bookMeasured s.cfg v (g - b) r) r' := by
      split
      · exact lookup_raiseHold hlookup _ _ _
      · exact ⟨_, hlookup, rfl, Iff.rfl⟩
    rw [hr', Option.any_some, beq_iff_eq, hverdict, hover]
  rw [← hholds, ← hbooked, ← hdelta]
  rfl

/-- What ends a booking, from the state its holds have left (R117, R118). -/
theorem afterBooking_of {c w : State} {v : VesselIx} {tag : Tag} {x : Vessel} {r r' : Record} {ends : Bool} (hends : ends = bookingBringsDone1 s n tag)
    (hr : lookup s tag = some r) (hw : w.progress = s.progress) (hr' : lookup w tag = some r') (hst : r'.stage = .vacuumHold ↔ r.stage = .vacuumHold)
    (hc : c.progress = w.progress) (hrec : c.records = w.records) (hclass : c.vu.vessels[v].streamClass = x.streamClass) :
    afterBooking c v n tag = grantAttempt
      (if ends = true then enterDone1 { c with progress := c.progress.set n ⟨.none, none, none, none, none, none, 0⟩ } tag else c)
      x.streamClass := by
  have hlookup : lookup c tag = some r' := by
    unfold lookup at hr' ⊢
    rw [hrec]
    exact hr'
  have hsame : bookingBringsDone1 c n tag = ends := by
    rw [hends, Bool.eq_iff_iff, bookingBringsDone1_iff hlookup, bookingBringsDone1_iff hr, hc, hw, hst]
  rw [afterBooking_eq, hsame, hclass]

theorem sendVessel_of {v : VesselIx} {x : Vessel} (h : s.vu.vessels[v] = x) (cause : VesselCause) (t : Tag) : sendVessel s v cause t
    = placeNotice s 14 (.vessel v x.streamClass x.state cause t x.netG (x.capacityG * x.fillPm / 1000) x.bookedTotalG) := by
  subst h
  rfl

theorem unbind_of {v : VesselIx} {x : Vessel} (h : s.vu.vessels[v] = x) (next : VesselState) (cause : Option FaultCause) : unbind s v next cause
    = { s with vu.vessels := s.vu.vessels.set v { x with bound := none, baselineGross := none, state := next, faultCause := cause } } := by
  subst h
  rfl

/-- The vessel's end of a measured booking (R117, R126). -/
theorem measuredEnd_eq {w : State} {v : VesselIx} {tag : Tag} {x : Vessel} {r r' : Record} {ends full : Bool} {net booked : Int}
    (hends : ends = bookingBringsDone1 s n tag) (hr : lookup s tag = some r) (hw : w.progress = s.progress) (hr' : lookup w tag = some r')
    (hst : r'.stage = .vacuumHold ↔ r.stage = .vacuumHold) (hv : w.vu.vessels[v] = { x with netG := some net, bookedTotalG := booked })
    (hfull : full = netIsFull { x with netG := some net }) :
    (let c := unbind w v (if netIsFull w.vu.vessels[v] then .full else .idle) none
     afterBooking (if netIsFull w.vu.vessels[v] then sendVessel c v .full tag else c) v n tag) =
      (let u := (let c := { w with vu.vessels := w.vu.vessels.set v { x with
          netG := some net, bookedTotalG := booked, bound := none, baselineGross := none
          state := if full = true then .full else .idle, faultCause := none } }
        if full = true then placeNotice c 14 (.vessel v x.streamClass .full .full tag (some net) (x.capacityG * x.fillPm / 1000) booked) else c)
       grantAttempt (if ends = true then enterDone1 { u with progress := u.progress.set n ⟨.none, none, none, none, none, none, 0⟩ } tag else u)
        x.streamClass) := by
  have hfull' : netIsFull w.vu.vessels[v] = full := by rw [hv, hfull]; rfl
  have hclass : ∀ y : Vessel, y.streamClass = x.streamClass → (w.vu.vessels.set v y)[v].streamClass = x.streamClass :=
    fun y hy => by rw [get_set_fin, hy]
  dsimp only
  rw [hfull', unbind_of hv]
  cases full with
  | true =>
    simp only [if_true]
    rw [sendVessel_of (get_set_fin ..), placeNotice_eq]
    exact afterBooking_of hends hr hw hr' hst rfl rfl (hclass _ rfl)
  | false =>
    simp only [Bool.false_eq_true, if_false]
    exact afterBooking_of hends hr hw hr' hst rfl rfl (hclass _ rfl)

/-- Settles O40: the booking, its holds, the vessel's next state, and what the booking brings. -/
theorem finalSampleBooksTheTransfer : Obligations.FinalSampleBooksTheTransfer := by
  intro s v t n x r hx hst hb hr
  refine ⟨bookingBringsDone1 s n t, stageAfterBooking s n t, _, bookingBringsDone1_iff hr, rfl, rfl, fun g b hbase => ?_,
    raiseHold (updRecord s t (bookUnmeasured v)) t .scaleFault 0 (stageAfterBooking s n t),
    congrArg (raiseHold · t .scaleFault 0 (stageAfterBooking s n t)) (updRecord_eq ..), ?_⟩
  · refine ⟨g - b, addBooked x.bookedTotalG (g - b), netIsFull { x with netG := some (g - x.tareG) }, bookedState s v t x g b,
      bookedHolds (bookedState s v t x g b) t (g - b < -(s.cfg.negTolerance : Int)) ((bookMeasured s.cfg v (g - b) r).verdict = .over)
        (stageAfterBooking s n t),
      rfl, clampInt_eq (by decide) _, netIsFull_iff rfl, rfl, rfl, ?_⟩
    rw [takeAnswer_final hx hst hb]
    refine (measuredBooking_eq (low := g - b < -(s.cfg.negTolerance : Int)) (above := (bookMeasured s.cfg v (g - b) r).verdict = .over)
      hx.symm hbase hr rfl Iff.rfl Iff.rfl).trans ?_
    have hvessel := bookedState_vessel s v t x g b
    obtain ⟨r', hr', -, hstage⟩ := lookup_bookedHolds (low := g - b < -(s.cfg.negTolerance : Int))
      (above := (bookMeasured s.cfg v (g - b) r).verdict = .over) (after := stageAfterBooking s n t) (lookup_bookedState hr v x g b)
    have hkeep := bookedHolds_vessel (tag := t) (low := g - b < -(s.cfg.negTolerance : Int))
      (above := (bookMeasured s.cfg v (g - b) r).verdict = .over) (after := stageAfterBooking s n t)
      (show (bookedState s v t x g b).vu.vessels[v].state ≠ .idle by rw [hvessel]; simp [hst])
      (by rw [hvessel]; simp [hst])
    exact measuredEnd_eq rfl hr bookedHolds_progress hr' hstage (hkeep.trans hvessel) rfl
  · rw [takeAnswer_final hx hst hb]
    show unmeasuredBooking s v t n = _
    have hlookup := lookup_updRecord_some (g := bookUnmeasured v) hr fun _ => rfl
    obtain ⟨r', hr', -, hstage⟩ := lookup_raiseHold hlookup .scaleFault 0 (stageAfterBooking s n t)
    have hkeep := raiseHold_vessel (s := updRecord s t (bookUnmeasured v)) (v := v)
      (show s.vu.vessels[v].state ≠ .idle by rw [← hx, hst]; decide) (show s.vu.vessels[v].state ≠ .baseline by rw [← hx, hst]; decide)
      t .scaleFault 0 (stageAfterBooking s n t)
    have hprogress := raiseHold_progress (updRecord s t (bookUnmeasured v)) t .scaleFault 0 (stageAfterBooking s n t)
    show afterBooking (sendVessel (unbind (raiseHold (updRecord s t (bookUnmeasured v)) t .scaleFault 0 (stageAfterBooking s n t))
      v .fault (some .finalUnusable)) v .finalUnusable t) v n t = _
    generalize raiseHold (updRecord s t (bookUnmeasured v)) t .scaleFault 0 (stageAfterBooking s n t) = w at hr' hkeep hprogress ⊢
    dsimp only
    rw [unbind_of (hkeep.trans hx.symm), sendVessel_of (get_set_fin ..), placeNotice_eq]
    exact afterBooking_of rfl hr hprogress hr' hstage rfl rfl (by rw [get_set_fin])

end Sys2Proof.Machine
end

section
/-!
The accounting arithmetic (chapter 07) and the condensate sample (9.6).
-/

namespace Sys2Proof.Machine

variable {s t : State}

/-! ### Rounding -/

theorem roundHalfAway_nonneg {m : Int} (h : 0 ≤ m) (d : Nat) : roundHalfAway m d = (2 * m + d) / (2 * d) := if_pos h

theorem roundHalfAway_nonpos {m : Int} (h : m ≤ 0) (d : Nat) : roundHalfAway m d = -((2 * -m + d) / (2 * d)) := by
  unfold roundHalfAway
  split
  · obtain rfl : m = 0 := le_antisymm h ‹_›
    rcases Nat.eq_zero_or_pos d with rfl | hd
    · simp
    · have hsmall : ((d : Int) / (2 * d)) = 0 := Int.ediv_eq_zero_of_lt (by omega) (by omega)
      simp [hsmall]
  · rfl

theorem convertible_iff (raw : Int) : convertible raw = true ↔ 1 ≤ raw ∧ raw ≤ 65534 := by
  simp [convertible]

theorem grossOf_above {raw : Int} {zeroCount : Nat} (h : (zeroCount : Int) ≤ raw) (span : Nat) :
    grossOf raw zeroCount span = (2 * ((raw - zeroCount) * span) + 1024) / 2048 :=
  roundHalfAway_nonneg (mul_nonneg (by omega) (by omega)) 1024

theorem grossOf_below {raw : Int} {zeroCount : Nat} (h : raw < (zeroCount : Int)) (span : Nat) :
    grossOf raw zeroCount span = -((2 * ((zeroCount - raw) * span) + 1024) / 2048) := by
  have hneg : (raw - zeroCount) * span ≤ 0 := mul_nonpos_of_nonpos_of_nonneg (by omega) (by omega)
  have hswap : -((raw - zeroCount) * (span : Int)) = (zeroCount - raw) * span := by ring
  rw [grossOf, roundHalfAway_nonpos hneg, hswap]
  rfl

/-- The refrigerant in whole grams (R129). -/
theorem refrigerant_eq {oil : Nat} (h : oil ≤ 1000) (delta : Int) : refrigerant delta oil = (delta.toNat * (1000 - oil) + 500) / 1000 := by
  have hcast : max delta 0 * (1000 - (oil : Int)) = ((delta.toNat * (1000 - oil) : Nat) : Int) := by
    push_cast [Nat.cast_sub h]
    rw [Int.ofNat_toNat]
  unfold refrigerant
  rw [hcast, roundHalfAway_nonneg (Int.natCast_nonneg _)]
  omega

/-! ### The apportionment (R135) -/

/-- Position j comes before position i: a larger remainder, or an equal one earlier in the batch. -/
def comesBefore (rems : List Nat) (j i : Nat) : Bool :=
  decide (rems.getD i 0 < rems.getD j 0) || (rems.getD j 0 == rems.getD i 0 && decide (j < i))

section
variable {rems : List Nat} {a b c i j L : Nat}

theorem comesBefore_iff : comesBefore rems j i = true ↔
    rems.getD i 0 < rems.getD j 0 ∨ (rems.getD j 0 = rems.getD i 0 ∧ j < i) := by
  unfold comesBefore
  rw [Bool.or_eq_true, Bool.and_eq_true, decide_eq_true_iff, decide_eq_true_iff, beq_iff_eq]

theorem comesBefore_trans (h : comesBefore rems a b = true) (h' : comesBefore rems b c = true) : comesBefore rems a c = true := by
  rw [comesBefore_iff] at *
  omega

theorem comesBefore_total (h : a ≠ b) : comesBefore rems a b = true ∨ comesBefore rems b a = true := by
  rw [comesBefore_iff, comesBefore_iff]
  omega

theorem comesBefore_irrefl (a : Nat) : ¬comesBefore rems a a = true := by
  rw [comesBefore_iff]
  omega

theorem remainderRank_eq (rems : List Nat) (i : Nat) :
    remainderRank rems i = ((Finset.range rems.length).filter fun j => comesBefore rems j i = true).card := by
  show (List.filter (comesBefore rems · i) (List.range rems.length)).length
    = (List.filter (fun j => decide (comesBefore rems j i = true)) (List.range rems.length)).length
  simp only [Bool.decide_eq_true]

theorem remainderRank_lt (ha : a < rems.length) (h : comesBefore rems a b = true) : remainderRank rems a < remainderRank rems b := by
  rw [remainderRank_eq, remainderRank_eq]
  refine Finset.card_lt_card ((Finset.ssubset_iff_of_subset fun x hx => ?_).mpr ⟨a, ?_, fun hx => ?_⟩)
  · obtain ⟨hx, hxa⟩ := Finset.mem_filter.mp hx
    exact Finset.mem_filter.mpr ⟨hx, comesBefore_trans hxa h⟩
  · exact Finset.mem_filter.mpr ⟨Finset.mem_range.mpr ha, h⟩
  · exact comesBefore_irrefl a (Finset.mem_filter.mp hx).2

theorem remainderRank_lt_length (hi : i < rems.length) : remainderRank rems i < rems.length := by
  rw [remainderRank_eq]
  conv_rhs => rw [← Finset.card_range rems.length]
  exact Finset.card_lt_card (Finset.filter_ssubset.mpr ⟨i, Finset.mem_range.mpr hi, comesBefore_irrefl i⟩)

theorem remainderRank_injOn (rems : List Nat) : Set.InjOn (remainderRank rems) (Finset.range rems.length : Set Nat) := by
  intro a ha b hb hab
  by_contra hne
  have ha : a < rems.length := by simpa using ha
  have hb : b < rems.length := by simpa using hb
  rcases comesBefore_total (rems := rems) hne with h | h
  · exact absurd hab (Nat.ne_of_lt (remainderRank_lt ha h))
  · exact absurd hab.symm (Nat.ne_of_lt (remainderRank_lt hb h))

/-- As many positions as there are grams left over have a rank below their number: the ranks are a numbering. -/
theorem card_remainderRank_lt (hL : L ≤ rems.length) : ((Finset.range rems.length).filter fun i => remainderRank rems i < L).card = L := by
  have himage : (Finset.range rems.length).image (remainderRank rems) = Finset.range rems.length := by
    refine Finset.eq_of_subset_of_card_le (fun x hx => ?_) (Finset.card_image_of_injOn (remainderRank_injOn rems)).ge
    obtain ⟨i, hi, rfl⟩ := Finset.mem_image.mp hx
    exact Finset.mem_range.mpr (remainderRank_lt_length (Finset.mem_range.mp hi))
  have hfilter : ((Finset.range rems.length).filter fun i => remainderRank rems i < L).image (remainderRank rems) = Finset.range L := by
    rw [← Finset.filter_image (p := (· < L)), himage]
    ext x
    simp only [Finset.mem_filter, Finset.mem_range]
    omega
  rw [← Finset.card_image_of_injOn ((remainderRank_injOn rems).mono (Finset.coe_subset.mpr (Finset.filter_subset _ _))), hfilter, Finset.card_range]

end

theorem sum_eq_sum_getD (l : List Nat) : l.sum = ∑ i ∈ Finset.range l.length, l.getD i 0 := by
  induction l with
  | nil => rfl
  | cons a l ih =>
    rw [List.sum_cons, List.length_cons, Finset.sum_range_succ', ih, add_comm]
    rfl

section
variable (total : Nat) (weights : List Nat)

/-- The grams that the floor shares leave over. -/
def leftover : Nat := total - ∑ i ∈ Finset.range weights.length, total * weights.getD i 0 / weights.sum

/-- The remainders of the floor shares. -/
def remainders : List Nat := weights.map fun w => total * w % weights.sum

@[simp] theorem remainders_length : (remainders total weights).length = weights.length := List.length_map ..

theorem remainders_getD (i : Nat) : (remainders total weights).getD i 0 = total * weights.getD i 0 % weights.sum := by
  have hzero : total * 0 % weights.sum = 0 := by rw [Nat.mul_zero, Nat.zero_mod]
  conv_lhs => rw [← hzero]
  exact List.getD_map weights 0 fun w => total * w % weights.sum

theorem floor_getD (i : Nat) : (weights.map fun w => total * w / weights.sum).getD i 0 = total * weights.getD i 0 / weights.sum := by
  have hzero : total * 0 / weights.sum = 0 := by rw [Nat.mul_zero, Nat.zero_div]
  conv_lhs => rw [← hzero]
  exact List.getD_map weights 0 fun w => total * w / weights.sum

/-- The shares, position by position (R135). -/
theorem apportion_eq : apportion total weights = (List.range weights.length).map fun i =>
    total * weights.getD i 0 / weights.sum + (if remainderRank (remainders total weights) i < leftover total weights then 1 else 0) := by
  have hlen : (floorShares total weights).length = weights.length := List.length_map ..
  have hfloors : (floorShares total weights).map (·.1) = weights.map fun w => total * w / weights.sum := List.map_map ..
  have hrems : (floorShares total weights).map (·.2) = remainders total weights := List.map_map ..
  have hsum : (weights.map fun w => total * w / weights.sum).sum
      = ∑ i ∈ Finset.range weights.length, total * weights.getD i 0 / weights.sum := by
    rw [sum_eq_sum_getD, List.length_map]
    exact Finset.sum_congr rfl fun i _ => floor_getD total weights i
  have hfirst : ∀ i, ((floorShares total weights).getD i (0, 0)).1 = total * weights.getD i 0 / weights.sum := by
    intro i
    rw [← floor_getD, ← hfloors]
    exact (List.getD_map (floorShares total weights) (0, 0) Prod.fst).symm
  unfold apportion
  dsimp only
  rw [hfloors, hsum, hrems, hlen]
  simp only [hfirst]
  rfl

/-- The remainders add up to the grams left over, in units of the weight sum. -/
theorem leftover_mul : leftover total weights * weights.sum
    = ∑ i ∈ Finset.range weights.length, total * weights.getD i 0 % weights.sum := by
  have hsum : ∑ i ∈ Finset.range weights.length, total * weights.getD i 0 = total * weights.sum := by
    rw [← Finset.mul_sum, ← sum_eq_sum_getD]
  have hdiv : (∑ i ∈ Finset.range weights.length, total * weights.getD i 0 / weights.sum) * weights.sum
      + ∑ i ∈ Finset.range weights.length, total * weights.getD i 0 % weights.sum = total * weights.sum := by
    rw [Finset.sum_mul, ← Finset.sum_add_distrib, ← hsum]
    exact Finset.sum_congr rfl fun i _ => Nat.div_add_mod' _ _
  unfold leftover
  rw [Nat.sub_mul]
  omega

variable (hw : 0 < weights.sum)
include hw

theorem leftover_add : ∑ i ∈ Finset.range weights.length, total * weights.getD i 0 / weights.sum + leftover total weights = total := by
  have hdiv : (∑ i ∈ Finset.range weights.length, total * weights.getD i 0 / weights.sum) ≤ total := by
    refine Nat.le_of_mul_le_mul_right ?_ hw
    rw [Finset.sum_mul]
    refine (Finset.sum_le_sum fun i _ => Nat.div_mul_le_self _ _).trans ?_
    rw [← Finset.mul_sum, ← sum_eq_sum_getD]
  exact Nat.add_sub_cancel' hdiv

theorem leftover_le : leftover total weights ≤ weights.length := by
  refine Nat.le_of_mul_le_mul_right ?_ hw
  rw [leftover_mul total weights]
  refine (Finset.sum_le_card_nsmul _ _ weights.sum fun i _ => (Nat.mod_lt _ hw).le).trans ?_
  rw [Finset.card_range, smul_eq_mul]

/-- Nothing of the total is lost (R135). -/
theorem apportion_sum : (apportion total weights).sum = total := by
  have hcard := card_remainderRank_lt (rems := remainders total weights) (L := leftover total weights)
    (by rw [remainders_length]; exact leftover_le total weights hw)
  rw [remainders_length] at hcard
  rw [apportion_eq, show ∀ g : Nat → Nat, ((List.range weights.length).map g).sum = ∑ i ∈ Finset.range weights.length, g i from fun _ => rfl,
    Finset.sum_add_distrib, ← Finset.card_filter, hcard, leftover_add total weights hw]

end

section
variable {total : Nat} {weights : List Nat} {i j : Nat}

theorem apportion_length : (apportion total weights).length = weights.length := by
  rw [apportion_eq, List.length_map, List.length_range]

theorem apportion_getD (hi : i < weights.length) : (apportion total weights).getD i 0 = total * weights.getD i 0 / weights.sum
    + (if remainderRank (remainders total weights) i < leftover total weights then 1 else 0) := by
  rw [apportion_eq, List.getD_eq_getElem _ _ (by simpa using hi), List.getElem_map, List.getElem_range]

/-- A position that comes before one with a gram more has a gram more (R135). -/
theorem apportion_order (hi : i < weights.length) (hj : j < weights.length)
    (h : total * weights.getD j 0 % weights.sum < total * weights.getD i 0 % weights.sum
      ∨ (total * weights.getD j 0 % weights.sum = total * weights.getD i 0 % weights.sum ∧ i < j))
    (hmore : (apportion total weights).getD j 0 = total * weights.getD j 0 / weights.sum + 1) :
    (apportion total weights).getD i 0 = total * weights.getD i 0 / weights.sum + 1 := by
  have hbefore : comesBefore (remainders total weights) i j = true := by
    rw [comesBefore_iff, remainders_getD, remainders_getD]
    exact h.imp_right fun h => ⟨h.1.symm, h.2⟩
  have hlt := remainderRank_lt (by rw [remainders_length]; exact hi) hbefore
  rw [apportion_getD hj] at hmore
  rw [apportion_getD hi, if_pos]
  split at hmore
  · exact hlt.trans ‹_›
  · omega

end

/-! ### Bookings -/

/-- The verdict by the yield and the band (R131). -/
theorem verdictOf_some (c : ConfigTables) (recovered d : Nat) : verdictOf c recovered (some d) =
    if min (recovered * 1000 / d) 1999 < c.completeMin then .short
    else if min (recovered * 1000 / d) 1999 ≤ c.overMax then .complete else .over := rfl

/-- Settles O42: conversion, apportionment, refrigerant and verdict. -/
theorem bookingArithmetic : Obligations.BookingArithmetic := by
  refine ⟨fun raw zeroCount span => ⟨convertible_iff raw, fun h => grossOf_above h span, fun h => grossOf_below h span⟩,
    fun total weights hw => ⟨apportion_sum total weights hw, apportion_length, fun i hi => ?_, fun i j hi hj => apportion_order hi hj⟩,
    fun c v delta r oil hoil hcls => ⟨_, _, verdictOf c (min (r.recovered + (delta.toNat * (1000 - oil) + 500) / 1000) 9999) r.declaredCharge,
      rfl, rfl, fun hd => ?_, fun d y hd hy => ⟨fun h1 => ?_, fun h1 h2 => ?_, fun h1 h2 => ?_⟩, ?_⟩⟩
  · rw [apportion_getD hi]
    split
    · exact .inr rfl
    · exact .inl rfl
  · rw [hd]
    rfl
  · rw [hd, verdictOf_some, ← hy, if_pos h1]
  · rw [hd, verdictOf_some, ← hy, if_neg (by omega), if_pos h2]
  · rw [hd, verdictOf_some, ← hy, if_neg (by omega), if_neg (by omega)]
  · have hoilPm : oilPm c r.cls = oil := by
      rcases hcls with ⟨hc, ho⟩ | ⟨hc, ho⟩
      · rw [hc, ho]
        rfl
      · rw [hc, ho]
        rfl
    unfold bookMeasured
    rw [hoilPm, refrigerant_eq hoil]

/-! ### The condensate sample -/

/-- The shares written in batch list order, as one change of the records (R135). -/
theorem foldl_writeShares (batch : List Tag) (shares : List Nat) (hlen : batch.length ≤ shares.length) (hnd : batch.Nodup) (s : State) :
    (batch.zip shares).foldl (fun s p => updRecord s p.1 fun r => { r with foamShare := some p.2 }) s
      = { s with records := s.records.map fun y => if y.tag ∈ batch then
          { y with foamShare := some (shares.getD (batch.idxOf y.tag) 0) } else y } := by
  induction batch generalizing shares s with
  | nil => simp
  | cons b batch ih =>
    cases shares with
    | nil => cases hlen
    | cons x shares =>
      obtain ⟨hb, hnd⟩ := List.nodup_cons.mp hnd
      rw [List.zip_cons_cons, List.foldl_cons, ih shares (Nat.le_of_succ_le_succ hlen) hnd, updRecord_eq]
      simp only [List.map_map]
      refine congrArg (fun rs => { s with records := rs }) (List.map_congr_left fun y _ => ?_)
      simp only [Function.comp_apply, List.mem_cons]
      by_cases hy : y.tag = b
      · simp [hy, hb]
      · simp [hy, List.idxOf_cons_ne _ (Ne.symm hy)]

theorem enterUnloading_eq (s : State) (c : PhaseCause) :
    enterUnloading s c = enterPhase { s with tu.phase := chStart (s.clock + sec s.cs.working.unloadTime) } .unloading c := rfl

section
variable (hp : s.cs.phase = .condensing)
include hp

theorem condensateAnswer_weigh (hb : s.cs.baseline ≠ .pending) (hst : s.cs.step = .weigh) (g : Option Int) :
    condensateAnswer s g = foamBooking s g := by
  unfold condensateAnswer
  rw [if_pos hp, if_neg hb, if_pos hst]

end

theorem foamBooking_kept {g b : Int} (hb : s.cs.baseline = .present b) : foamBooking s (some g)
    = enterUnloading (writeShares { s with cs.total := some (condensateTotal b g) } (apportion (condensateTotal b g) (batchWeights s))) .foamBooked := by
  unfold foamBooking
  rw [hb]

theorem foamBooking_discarded {g : Option Int} (h : g = none ∨ ∀ b : Int, s.cs.baseline ≠ .present b) : foamBooking s g
    = enterUnloading (clearShares { s with cs.total := none }) .foamBooked := by
  unfold foamBooking
  rcases h with rfl | h
  · rfl
  · cases hb : s.cs.baseline with
    | present b => exact absurd hb (h b)
    | _ => cases g <;> rfl

/-- Settles O43: the baseline, or the booking and UNLOADING. -/
theorem condensateSampleBooksTheFoam : Obligations.CondensateSampleBooksTheFoam := by
  refine fun s gross => ⟨fun hp => if_neg hp, fun hp hb => (if_pos hp).trans (if_pos hb), fun hp hb hst => ?_, fun hp hst =>
    ⟨fun g b hg hb hnd => ⟨condensateTotal b g, batchWeights s, _, ?_, rfl, rfl, ?_⟩, fun hb hno => ?_⟩⟩
  · exact (if_pos hp).trans ((if_neg hb).trans (if_neg hst))
  · exact clampNat_int (by decide) _
  · show condensateAnswer s gross = _
    rw [condensateAnswer_weigh hp (by rw [hb]; nofun) hst, hg, foamBooking_kept hb]
    have hlen : s.cs.batchList.length ≤ (apportion (condensateTotal b g) (batchWeights s)).length := by
      rw [apportion_length]
      exact (List.length_map ..).ge
    rw [show writeShares { s with cs.total := some (condensateTotal b g) } _ = _ from foldl_writeShares _ _ hlen hnd _]
    rfl
  · show condensateAnswer s gross = _
    rw [condensateAnswer_weigh hp hb hst, foamBooking_discarded hno, show clearShares { s with cs.total := none } = _ from
      foldl_updRecord_mem (g := fun r => { r with foamShare := none }) (fun _ => rfl) (fun _ => rfl) s.cs.batchList _]
    rfl

end Sys2Proof.Machine
end

section
/-!
The slots of the sensor line (8.3), the PWM generator (4.3), the inputs (4.4), and how CS takes its expiries and leaves ABORTED (9.4 to 9.7).
-/

namespace Sys2Proof.Machine

variable {s t : State} {f : Frame} {rest : List Frame}

/-! ### The slots -/

theorem nextEnabled_none (h : ∀ i : SensorIx, s.sn.sensors[i].enabled = false) : nextEnabled s = none := by
  unfold nextEnabled
  rw [List.find?_eq_none]
  intro i _
  rw [h i]
  exact Bool.false_ne_true

/-- The first enabled entry after the one last polled (R142). -/
theorem nextEnabled_of {i : SensorIx} {k : Nat} (hk : k < 16) (hi : i.val = (s.sn.lastPolled.val + k + 1) % 16)
    (he : s.sn.sensors[i].enabled = true)
    (hno : ∀ (j : SensorIx) (m : Nat), m < k → j.val = (s.sn.lastPolled.val + m + 1) % 16 → s.sn.sensors[j].enabled = false) :
    nextEnabled s = some i := by
  have hafter : sensorAfter s.sn.lastPolled (k + 1) = i := Fin.ext hi.symm
  have hfind : (List.range 16).find? ((fun i => s.sn.sensors[i].enabled) ∘ fun k => sensorAfter s.sn.lastPolled (k + 1)) = some k := by
    rw [List.find?_range_eq_some]
    refine ⟨?_, List.mem_range.mpr hk, fun m hm => ?_⟩
    · rw [Function.comp_apply, hafter, he]
    · rw [Function.comp_apply, hno (sensorAfter s.sn.lastPolled (m + 1)) m hm rfl]
      rfl
  unfold nextEnabled
  rw [List.find?_map, hfind]
  exact congrArg some hafter

/-- Settles O44: the next enabled entry in the rotation is polled. -/
theorem slotPollsTheNextEntry : Obligations.SlotPollsTheNextEntry := by
  refine fun s => ⟨fun h => congrArg Host.Outcome.next (if_neg ?_), fun hfree hdue => ?_⟩
  · rw [Bool.and_eq_true, Option.isNone_iff_eq_none]
    rintro ⟨h1, h2⟩
    rcases h with h | h
    · exact h h1
    · exact Bool.noConfusion (h.symm.trans h2)
  · have hstart : exec .slotStart s = .next (beginSlot s s.sn.slotDue) :=
      congrArg Host.Outcome.next (if_pos (by rw [hfree, hdue]; rfl))
    refine ⟨fun hno => ?_, fun i k hk hi he hno => ?_⟩
    · rw [hstart]
      unfold beginSlot
      dsimp only
      rw [show nextEnabled { s with sn.slotDue := s.sn.slotDue + msec s.cfg.slotInterval } = none from nextEnabled_none hno]
    · rw [hstart]
      unfold beginSlot
      dsimp only
      rw [show nextEnabled { s with sn.slotDue := s.sn.slotDue + msec s.cfg.slotInterval } = some i from nextEnabled_of hk hi he hno]

/-! ### The PWM generator -/

/-- Settles O51: a period applies the staged duty, and its active time ends. -/
theorem pwmPeriodAppliesTheDuty : Obligations.PwmPeriodAppliesTheDuty := by
  refine fun s => ⟨fun h => ⟨congrArg Host.Outcome.next ?_, congrArg Host.Outcome.next ?_⟩, fun c hc => ⟨fun hr => congrArg Host.Outcome.next ?_,
    fun hr => congrArg Host.Outcome.next ?_, fun hlt hr => congrArg Host.Outcome.next ?_, fun h => congrArg Host.Outcome.next ?_⟩⟩
  · unfold nextPeriod
    rw [h]
  · unfold endActiveTime
    rw [h]
  · unfold nextPeriod
    rw [hc]
    exact if_pos hr
  · unfold nextPeriod
    rw [hc]
    exact if_neg (by rw [hr]; exact Bool.false_ne_true)
  · unfold endActiveTime
    rw [hc]
    exact if_pos ⟨hlt, hr⟩
  · unfold endActiveTime
    rw [hc]
    refine if_neg ?_
    rintro ⟨h1, h2⟩
    rcases h with h | h
    · omega
    · exact Bool.noConfusion (h.symm.trans h2)

/-! ### The inputs -/

theorem setInput_getInput (s : State) (i : Input) : setInput s i (getInput s i) = s := by
  cases i with
  | barrier g =>
    cases g with
    | lane l => cases l <;> rfl
    | feed => rfl
  | door => rfl
  | estop => rfl

theorem rawChanged_same {x : InputFilter} {level : Bool} (h : level = x.raw) (now : Clock) (ft : Nat) : rawChanged x level now ft = x :=
  if_pos h

theorem rawChanged_new {x : InputFilter} {level : Bool} (h : level ≠ x.raw) (hc : x.candidate = none) (hf : level ≠ x.filtered) (now : Clock)
    (ft : Nat) : rawChanged x level now ft = ⟨level, now, x.filtered, some ⟨now, ft⟩⟩ := by
  unfold rawChanged
  rw [if_neg h, hc]
  dsimp only
  rw [if_neg hf]

theorem rawChanged_candidate {x : InputFilter} {level : Bool} {c : Candidate} (h : level ≠ x.raw) (hc : x.candidate = some c) (now : Clock)
    (ft : Nat) : rawChanged x level now ft =
      ⟨level, now, x.filtered, if level = x.filtered ∧ candidateHeld now c = false then none else some c⟩ := by
  unfold rawChanged
  rw [if_neg h, hc]

theorem accepted_of {x : InputFilter} (h : x.raw ≠ x.filtered) (ft : Nat) : accepted x ft = ⟨x.raw, x.rawStamp, x.raw, none⟩ := by
  have hraw : x.raw = !x.filtered := Bool.eq_not_of_ne h
  unfold accepted
  rw [if_pos hraw, ← hraw]

theorem exec_accepted {i : Input} {c : Candidate} (hc : (getInput s i).candidate = some c) (hh : candidateHeld s.clock c = true)
    (hr : (getInput s i).raw ≠ (getInput s i).filtered) : exec (.inputChangeAccepted i) s = .next (deliverChange
      (setInput s i ⟨(getInput s i).raw, (getInput s i).rawStamp, (getInput s i).raw, none⟩) i c.stamp) := by
  show execInputChangeAccepted i s = _
  unfold execInputChangeAccepted
  rw [hc]
  dsimp only
  rw [if_pos hh, accepted_of hr]

/-- A barrier's accepted change, as its slot and its passages (R85). -/
theorem barrierChanged_eq (s : State) (g : Gate) (raw : Bool) (stamp : Clock) : barrierChanged s g raw stamp = { s with
    tu.slots := s.tu.slots.set g (if raw = false then .clear else if s.tu.slots.get g = .clear then .broken else s.tu.slots.get g)
    tu.passages := if raw = false ∧ s.tu.slots.get g = .broken then s.tu.passages ++ [⟨g, stamp, s.clock, false⟩] else s.tu.passages } := by
  unfold barrierChanged
  dsimp only
  cases raw <;> cases s.tu.slots.get g <;> rfl

/-- Settles O52: the filter of every input, and what an accepted change delivers. -/
theorem inputsAreFilteredAndCaptured : Obligations.InputsAreFilteredAndCaptured := by
  refine fun s => ⟨fun i level x put hx hput => ?_, fun g x c hx hc hr hh => ?_, fun c hc hr hh => ?_⟩
  · have hx : x = getInput s i := by rw [hx]; cases i <;> rfl
    have hput : ∀ y, put y = setInput s i y := fun y => by rw [hput]; cases i <;> rfl
    subst hx
    have hraw : exec (.rawInputChange i level) s = .next (setInput s i (rawChanged (getInput s i) level s.clock s.cfg.filterTime)) := rfl
    refine ⟨fun h => ?_, fun h hc hf => ?_, fun c h hc => ⟨fun hf hno => ?_, fun hkeep => ?_⟩, fun hno => ?_⟩
    · rw [hraw, rawChanged_same h, setInput_getInput]
    · rw [hraw, rawChanged_new h hc hf, hput]
    · rw [hraw, rawChanged_candidate h hc, hput, if_pos ⟨hf, hno⟩]
    · rw [hraw, rawChanged_candidate h hc, hput, if_neg]
      rintro ⟨h1, h2⟩
      rcases hkeep with hk | hk
      · exact hk h1
      · exact Bool.noConfusion (h2.symm.trans hk)
    · show execInputChangeAccepted i s = _
      unfold execInputChangeAccepted
      rcases hno with hno | ⟨c, hc, hno⟩
      · rw [hno]
      · rw [hc]
        exact congrArg Host.Outcome.next (if_neg (by unfold candidateHeld; rw [hno]; exact Bool.false_ne_true))
  · subst hx
    rw [exec_accepted (i := .barrier g) hc hh hr]
    refine congrArg Host.Outcome.next ?_
    show barrierChanged (setInput s (.barrier g) ⟨_, _, _, none⟩) g _ c.stamp = _
    rw [barrierChanged_eq]
    simp only [setInput, GateTab.get_set_same]
    rfl
  · rw [exec_accepted (i := .door) hc hh hr]
    rfl

/-! ### The way out of ABORTED -/

/-- CHAMBER_ABORT leaves the batch, as one change of the records. -/
theorem liftAbort_eq (s : State) : liftAbort s = { s with records := s.records.map fun x => if x.tag ∈ s.cs.batchList then
    { x with holds := x.holds.filter (·.reason != .chamberAbort) } else x } :=
  foldl_updRecord_mem (g := fun r => { r with holds := r.holds.filter (·.reason != .chamberAbort) }) (fun _ => rfl)
    (fun r => by simp [List.filter_filter]) s.cs.batchList s

/-- A Clear removes the holds and the shares of the batch (R173). -/
theorem clearShares_liftAbort (s : State) : clearShares (liftAbort s) = { s with
    records := s.records.map fun x => if x.tag ∈ s.cs.batchList then
      { x with holds := x.holds.filter (·.reason != .chamberAbort), foamShare := none } else x } := by
  have hshares := foldl_updRecord_mem (g := fun r => { r with foamShare := none }) (fun _ => rfl) (fun _ => rfl) s.cs.batchList (liftAbort s)
  rw [show clearShares (liftAbort s) = s.cs.batchList.foldl (fun s t => updRecord s t fun r => { r with foamShare := none }) (liftAbort s)
    from by rw [liftAbort_eq]; rfl, hshares, liftAbort_eq]
  simp only [List.map_map]
  refine congrArg (fun rs => { s with records := rs }) (List.map_congr_left fun x _ => ?_)
  by_cases hx : x.tag ∈ s.cs.batchList <;> simp [hx]

/-- Settles O49: the checks of Restart and Clear, and what they enter. -/
theorem restartAndClearLeaveAborted : Obligations.RestartAndClearLeaveAborted := by
  refine fun s f rest => ⟨fun h => ⟨fun hl => exec_supervisor_refused h (if_pos hl), fun hl hbad => exec_supervisor_refused h ?_,
      fun hl hp hd => ⟨_, rfl, exec_supervisor_done h ?_⟩⟩,
    fun h => ⟨fun hl => exec_supervisor_refused h (if_pos hl), fun hl hp => exec_supervisor_refused h ?_,
      fun hl hp => ⟨_, rfl, exec_supervisor_done h ?_⟩⟩⟩
  · refine (if_neg (not_not.mpr hl)).trans ?_
    by_cases hp : s.cs.phase = .aborted
    · have hd : s.tu.door.filtered = false := hbad.resolve_left (not_not.mpr hp)
      exact (if_neg (not_not.mpr hp)).trans (if_pos (congrArg not hd))
    · exact if_pos hp
  · refine (if_neg (not_not.mpr hl)).trans ((if_neg (not_not.mpr hp)).trans ((if_neg ?_).trans ?_))
    · show ¬(!s.tu.door.filtered) = true
      rw [hd]
      exact Bool.false_ne_true
    · show answerDone (enterPurging (liftAbort (popped s rest)) .chamberRestart) .empty = _
      rw [liftAbort_eq]
      rfl
  · exact (if_neg (not_not.mpr hl)).trans (if_pos hp)
  · refine (if_neg (not_not.mpr hl)).trans ((if_neg (not_not.mpr hp)).trans ?_)
    have hclear : clearChamber (popped s rest) = enterUnloading { clearShares (liftAbort (popped s rest)) with
      cs.total := none, cs.baseline := .none } .chamberClear := rfl
    rw [hclear, clearShares_liftAbort]
    rfl

/-! ### The expiries of the chamber channels -/

theorem o2AtMost_iff {m : Nat} : o2AtMost s m = true ↔ gasFailed s = false ∧ ∃ o : Int, latestO2 s = some o ∧ o ≤ m := by
  unfold o2AtMost
  rw [Bool.and_eq_true, Bool.not_eq_true', Option.any_eq_true]
  simp only [decide_eq_true_iff]

/-- Settles O50: the expiry of each channel, by the phase. -/
theorem chamberExpiriesActByPhase : Obligations.ChamberExpiriesActByPhase := by
  refine fun s d => ⟨fun hd u hu => ?_, fun hd u hu => ?_, fun hd u hu => ?_⟩
  · have hexec : exec .phaseExpiry s = .next (phaseExpired u d) := by
      show execPhaseExpiry s = _
      unfold execPhaseExpiry
      rw [chDue_of_expiry hd, hu]
    rw [hexec]
    have hphase : u.cs = s.cs := by rw [hu]
    unfold phaseExpired
    rw [hphase]
    refine ⟨fun hp => ?_, fun hp hm => ?_, fun hp hm => ⟨_, rfl, fun ho => ?_, fun ho => ?_⟩, fun hp => ?_, fun hp => ?_, fun hp hst => ?_,
      fun hp hst hb => ?_, fun hp hst hb => ?_, fun hp => ?_, fun hp => ?_⟩
    · rw [hp]
    · rw [hp]
      exact congrArg Host.Outcome.next (if_pos hm)
    · rw [hp, hu]
      obtain ⟨o, hg, ho⟩ := ho
      refine congrArg Host.Outcome.next ((if_neg (by rw [hm]; exact Bool.false_ne_true)).trans (if_pos ?_))
      exact Bool.and_eq_true_iff.mpr ⟨rfl, o2AtMost_iff.mpr ⟨hg, o, ho⟩⟩
    · rw [hp, hu]
      refine congrArg Host.Outcome.next ((if_neg (by rw [hm]; exact Bool.false_ne_true)).trans (if_neg fun hdone => ?_))
      obtain ⟨hg, o, ho', hle⟩ := o2AtMost_iff.mp (Bool.and_eq_true_iff.mp hdone).2
      rcases ho with ho | ho
      · exact Bool.noConfusion (hg.symm.trans ho)
      · exact absurd hle (not_le.mpr (ho o ho'))
    · rw [hp]
    · rw [hp]
    · rw [hp, hst, hu]
    · rw [hp, hst, hu]
      refine congrArg Host.Outcome.next ?_
      have hweigh : enterWeigh { s with tu.phase := { s.tu.phase with expiry := none } }
          = requestSample { s with tu.phase := { s.tu.phase with expiry := none }, cs.step := .weigh } .condensate s.cs.working.condensateSensor := by
        unfold enterWeigh
        dsimp only
        rw [if_neg hb]
      exact hweigh.trans (requestSample_eq ..)
    · rw [hp, hst, hu]
      refine congrArg Host.Outcome.next ?_
      show enterWeigh { s with tu.phase := { s.tu.phase with expiry := none } } = _
      unfold enterWeigh
      dsimp only
      rw [if_pos hb]
      rfl
    · rw [hp]
    · rcases hp with hp | hp | hp | hp
      all_goals rw [hp]
  · show execPauseExpiry s = _
    unfold execPauseExpiry
    rw [chDue_of_expiry hd, hu]
    refine congrArg Host.Outcome.next ?_
    show pauseExpired { s with tu.pause := { s.tu.pause with expiry := none } } = _
    unfold pauseExpired
    cases hp : s.cs.phase <;> rfl
  · show execLoadExpiry s = _
    unfold execLoadExpiry
    rw [chDue_of_expiry hd, hu]
    rfl

end Sys2Proof.Machine
end

section
/-!
The end of a poll (8.4 to 8.7).
-/

namespace Sys2Proof.Machine

variable {s t : State}

/-! ### The check byte -/

theorem repeat_eq_iterate {α : Type} (g : α → α) (n : Nat) (a : α) : Nat.repeat g n a = g^[n] a := by
  induction n with
  | zero => rfl
  | succ n ih => rw [Function.iterate_succ_apply', ← ih]; rfl

theorem checkByte_eq {shift : Byte → Byte} (h : ∀ x : Byte, shift x = if x.getLsbD 7 = true then (x <<< 1) ^^^ 0x31#8 else x <<< 1)
    (high low : Byte) : checkByte high low = shift^[8] (shift^[8] (0xFF#8 ^^^ high) ^^^ low) := by
  have hshift : crcShift = shift := by
    funext x
    rw [h x, crcShift, BitVec.msb_eq_getLsbD_last]
  unfold checkByte crcByte
  rw [repeat_eq_iterate, repeat_eq_iterate, hshift]

theorem pollWord_eq (first retry : Transaction) : pollWord first retry = match transactionWord first with
    | some w => some w
    | none => transactionWord retry := by
  unfold pollWord
  cases transactionWord first <;> rfl

/-! ### The entry after a poll -/

section
variable {e : Sensor}

theorem failedPoll_fault (h : e.state = .fault) : failedPoll e = { e with failCount := min (e.failCount + 1) 3, goodCount := 0 } := if_pos h

theorem failedPoll_counts (h : e.state ≠ .fault) (hf : e.failCount < 2) : failedPoll e = { e with failCount := e.failCount + 1 } := by
  have hmin : min (e.failCount + 1) 3 = e.failCount + 1 := by omega
  unfold failedPoll
  dsimp only
  rw [if_neg h, hmin, if_neg (by omega)]

theorem failedPoll_faults (h : e.state ≠ .fault) (hf : 2 ≤ e.failCount) :
    failedPoll e = { e with failCount := 3, state := .fault, stale := true, faultLatch := true, goodCount := 0 } := by
  have hmin : min (e.failCount + 1) 3 = 3 := by omega
  unfold failedPoll
  dsimp only
  rw [if_neg h, hmin, if_pos rfl]

theorem hasLimits_iff : hasLimits e = true ↔ e.kind ≠ .scale := bne_iff_ne

theorem decodeSample_eq (k : SensorKind) (w : Nat) : decodeSample k w = match k with
    | .o2 => min (w : Int) 250
    | .lel => min (w : Int) 1000
    | .temp => max (-1000) (min (if w < 32768 then (w : Int) else (w : Int) - 65536) 1000)
    | .scale => (w : Int) := by
  cases k with
  | temp => exact clampInt_eq (by decide) _
  | o2 => rfl
  | lel => rfl
  | scale => rfl

/-- The entry after a good poll, field by field (R146, R147, R149). -/
theorem goodPoll_eq (e : Sensor) (w : Nat) (now : Clock) {v : Int} {fresh : SensorState} (hv : v = decodeSample e.kind w)
    (hfresh : fresh = if e.kind ≠ .scale ∧ e.thresholds.1 ≤ v then .high else .normal) :
    goodPoll e w now = { e with
      latest := some (v, now)
      saturated := decide (e.kind = .scale ∧ (w = 0 ∨ w = 65535))
      failCount := 0
      stale := e.stale && !(decide (e.state = .fault ∧ 1 ≤ e.goodCount))
      goodCount := if e.state = .fault then (if 1 ≤ e.goodCount then 0 else e.goodCount + 1) else e.goodCount
      state := match e.state with
        | .fault => if 1 ≤ e.goodCount then fresh else .fault
        | .high => if e.kind ≠ .scale ∧ e.thresholds.2 < v then .high else .normal
        | _ => fresh } := by
  have hsat : isSaturated e.kind w = decide (e.kind = .scale ∧ (w = 0 ∨ w = 65535)) := by
    rw [Bool.eq_iff_iff]
    simp [isSaturated]
  have hf : ∀ x : Sensor, x.kind = e.kind → x.thresholds = e.thresholds → freshState x v = fresh := by
    intro x hk ht
    rw [hfresh, freshState, hk.symm, ht.symm]
    exact if_congr (and_congr hasLimits_iff Iff.rfl) rfl rfl
  subst hv
  unfold goodPoll
  dsimp only
  rw [hsat]
  have htwo : 2 ≤ e.goodCount + 1 ↔ 1 ≤ e.goodCount := by omega
  cases hst : e.state with
  | fault =>
    rw [if_pos rfl]
    by_cases hg : 1 ≤ e.goodCount
    · rw [if_pos (htwo.mpr hg)]
      simp [hg, hf]
    · rw [if_neg (mt htwo.mp hg)]
      simp [hg]
  | high =>
    rw [if_neg (by decide)]
    simp [judgedState, hasLimits_iff]
  | init =>
    rw [if_neg (by decide)]
    simp [judgedState, hf]
  | normal =>
    rw [if_neg (by decide)]
    simp [judgedState, hf]

end

/-! ### The outcome handed on -/

theorem dueRequests_eq (s : State) (i : SensorIx) : dueRequests s i =
    (s.sn.requests.filter fun q => q.index == i && q.requester == .condensate)
      ++ (s.sn.requests.filter fun q => q.index == i && q.requester != .condensate) := by
  unfold dueRequests
  dsimp only
  rw [List.filter_filter, List.filter_filter]
  simp only [Bool.and_comm]

theorem handOutcome_eq (s : State) (i : SensorIx) (good : Bool) (gross : Option Int) : handOutcome s i good gross =
    (dueRequests s i).foldl (fun u q =>
      if q ∈ u.sn.requests then takeAnswer { u with sn.requests := u.sn.requests.erase q } q.requester gross else u) (chamberSensor s i good) := by
  unfold handOutcome answerRequest
  simp only [List.contains_iff_mem]

/-! ### The end of a poll -/

section
variable {first retry : Transaction} {p : Poll} {u : State}

theorem pollSent_eq (p : Poll) (first retry : Transaction) : pollSent p first retry
    = transactionSent p first ++ (if transactionWord first = none then transactionSent p retry else []) := by
  unfold pollSent
  rw [ite_isSome]

theorem exec_pollEnd (hp : s.sn.inFlight = some p) (hu : closePoll s (pollSent p first retry) = u) :
    exec (.pollEnd first retry) s = .next (if p.discarded = true then u
      else match pollWord first retry with
        | some w => pollGood u p.index w
        | none => pollFailed u p.index) := by
  subst hu
  show Host.Outcome.next (pollEnds s first retry) = _
  unfold pollEnds
  rw [hp] <;> rfl

/-- LIMIT tells a change of state (R152). -/
theorem sendLimit_changed {i : SensorIx} {before : SensorState} {x : Sensor} (hx : s.sn.sensors[i] = x) (h : x.state ≠ before) :
    sendLimit s i before = placeNotice s 14 (.limit i x.kind before x.state ((x.latest.map (·.1)).getD 0) x.stale x.saturated
      (optAgeMs s.clock (x.latest.map (·.2)))) := by
  subst hx
  exact if_neg h

theorem sendLimit_same {i : SensorIx} {before : SensorState} (h : s.sn.sensors[i].state = before) : sendLimit s i before = s := if_pos h

theorem sendLimit_sn (s : State) (i : SensorIx) (before : SensorState) : (sendLimit s i before).sn = s.sn := by
  by_cases h : s.sn.sensors[i].state = before
  · rw [sendLimit_same h]
  · rw [sendLimit_changed rfl h, placeNotice_eq]

theorem pollFailed_same {i : SensorIx} (h : (failedPoll s.sn.sensors[i]).state = s.sn.sensors[i].state) :
    pollFailed s i = { s with sn.sensors := s.sn.sensors.set i (failedPoll s.sn.sensors[i]) } := by
  unfold pollFailed
  dsimp only
  rw [if_pos (by rw [getElem_updSensor, if_pos rfl]; exact h)]
  rfl

theorem pollFailed_changed {i : SensorIx} {x : Sensor} (hx : failedPoll s.sn.sensors[i] = x) (h : x.state ≠ s.sn.sensors[i].state) :
    pollFailed s i = handOutcome (placeNotice { s with sn.sensors := s.sn.sensors.set i x } 14
      (.limit i x.kind s.sn.sensors[i].state x.state ((x.latest.map (·.1)).getD 0) x.stale x.saturated
        (optAgeMs s.clock (x.latest.map (·.2))))) i false none := by
  have hupd : updSensor s i failedPoll = { s with sn.sensors := s.sn.sensors.set i x } := by rw [← hx]; rfl
  have hget : (s.sn.sensors.set i x)[i] = x := get_set_fin ..
  unfold pollFailed
  dsimp only
  rw [hupd, if_neg (by rw [hget]; exact h), sendLimit_changed hget h]

theorem pollGood_eq {i : SensorIx} {x : Sensor} {w : Nat} {v : Int} (hx : goodPoll s.sn.sensors[i] w s.clock = x)
    (hv : v = decodeSample x.kind w) (hlatest : x.latest = some (v, s.clock)) :
    pollGood s i w = handOutcome
      (if x.state = s.sn.sensors[i].state then { s with sn.sensors := s.sn.sensors.set i x }
       else placeNotice { s with sn.sensors := s.sn.sensors.set i x } 14
        (.limit i x.kind s.sn.sensors[i].state x.state v x.stale x.saturated 0)) i true (usableGross x v) := by
  have hupd : updSensor s i (fun e => goodPoll e w s.clock) = { s with sn.sensors := s.sn.sensors.set i x } := by rw [← hx]; rfl
  have hget : (s.sn.sensors.set i x)[i] = x := get_set_fin ..
  have hlimit : sendLimit { s with sn.sensors := s.sn.sensors.set i x } i s.sn.sensors[i].state
      = if x.state = s.sn.sensors[i].state then { s with sn.sensors := s.sn.sensors.set i x }
        else placeNotice { s with sn.sensors := s.sn.sensors.set i x } 14
          (.limit i x.kind s.sn.sensors[i].state x.state v x.stale x.saturated 0) := by
    by_cases h : x.state = s.sn.sensors[i].state
    · rw [if_pos h]
      exact sendLimit_same (by rw [hget]; exact h)
    · rw [if_neg h, sendLimit_changed hget h, hlatest]
      show placeNotice _ 14 (.limit i x.kind _ x.state v x.stale x.saturated (min (s.clock - s.clock).toNat 65534)) = _
      rw [BitVec.sub_self]
      rfl
  unfold pollGood
  dsimp only
  have hafter : (sendLimit { s with sn.sensors := s.sn.sensors.set i x } i s.sn.sensors[i].state).sn.sensors[i] = x := by
    rw [sendLimit_sn]
    exact hget
  rw [hupd, hafter, ← hv, hlimit]

end

theorem usableGross_eq (e : Sensor) (raw : Int) : usableGross e raw =
    if e.kind = .scale ∧ e.state ≠ .fault ∧ convertible raw = true then some (grossOf raw e.zero e.span) else none := rfl

/-- Settles O45: the outcome of a poll, what it makes of the entry, and to whom it is handed on. -/
theorem pollEndJudgesTheSample : Obligations.PollEndJudgesTheSample := by
  refine ⟨fun s first retry => ⟨fun hno => ?_, fun p e u hp he hu => ?_⟩, fun p => ⟨rfl, rfl, rfl, fun _ _ _ => rfl⟩,
    fun s i good gross due hdue => ?_, fun high low check first retry shift hshift => ⟨checkByte_eq hshift high low, fun _ => rfl, rfl,
      pollWord_eq first retry⟩⟩
  · show Host.Outcome.next (pollEnds s first retry) = _
    unfold pollEnds
    rw [hno]
  · have hclose : closePoll s (pollSent p first retry) = u := by
      rw [hu, pollSent_eq]
      rfl
    have hexec := exec_pollEnd (first := first) (retry := retry) hp hclose
    have he' : u.sn.sensors[p.index] = e := by rw [hu, he]
    have hsensors : u.sn.sensors = s.sn.sensors := by rw [hu]
    have hclock : u.clock = s.clock := by rw [hu]
    refine ⟨fun hd => hexec.trans (congrArg Host.Outcome.next (if_pos hd)), fun hd hw => ?_, fun w hd hw => ?_⟩
    · have hfailed : exec (.pollEnd first retry) s = .next (pollFailed u p.index) := by
        rw [hexec, if_neg (by rw [hd]; exact Bool.false_ne_true), hw]
      refine ⟨fun hst => ?_, fun hst hf => ?_, fun hst hf => ⟨_, rfl, ?_⟩⟩
      · rw [hfailed, pollFailed_same (by rw [he', failedPoll_fault hst]), he', failedPoll_fault hst, hsensors]
      · rw [hfailed, pollFailed_same (by rw [he', failedPoll_counts hst hf]), he', failedPoll_counts hst hf, hsensors]
      · have hx : failedPoll u.sn.sensors[p.index] = { e with failCount := 3, state := .fault, stale := true, faultLatch := true, goodCount := 0 } := by
          rw [he', failedPoll_faults hst hf]
        rw [hfailed, pollFailed_changed hx (by rw [he']; exact fun h => hst h.symm), he', hsensors, hclock]
    · have hx := goodPoll_eq e w s.clock rfl rfl
      refine ⟨decodeSample e.kind w, goodPoll e w s.clock, _, decodeSample_eq e.kind w, rfl, hx, ?_⟩
      have hkind : (goodPoll e w s.clock).kind = e.kind := (congrArg Sensor.kind hx).trans rfl
      have hzero : (goodPoll e w s.clock).zero = e.zero := (congrArg Sensor.zero hx).trans rfl
      have hspan : (goodPoll e w s.clock).span = e.span := (congrArg Sensor.span hx).trans rfl
      have hlatest : (goodPoll e w s.clock).latest = some (decodeSample e.kind w, u.clock) := (congrArg Sensor.latest hx).trans (by rw [hclock])
      have hgood := pollGood_eq (s := u) (i := p.index) (x := goodPoll e w s.clock) (w := w) (by rw [he', hclock])
        (congrArg (decodeSample · w) hkind.symm) hlatest
      rw [hexec, if_neg (by rw [hd]; exact Bool.false_ne_true), hw]
      dsimp only
      rw [hgood, usableGross_eq, hkind, hzero, hspan, he', hsensors]
  · rw [handOutcome_eq, hdue, dueRequests_eq]

end Sys2Proof.Machine
end

section
/-!
The entry into a phase (9.1 to 9.3), and the phases' beginnings and ends (9.4 to 9.7).
-/

namespace Sys2Proof.Machine

variable {s t : State} {f : Frame} {rest : List Frame}

/-! ### The duty and the pattern of an entry -/

/-- The duty staged after the entry into the phase (R156, assumption 28). -/
def entryStaged (s : State) : Nat :=
  if entryStages s.cs.phase (patternOf s.cs.working s.cs.phase).n2Prop = true then min (stagedAtEntry s.cs.working s.cs.phase) 256
  else s.tu.pwm.staged

theorem stageEntry_eq (s : State) : stageEntry s = { s with tu.pwm.staged := entryStaged s } := by
  unfold stageEntry entryStaged
  split <;> rfl

/-- The generator and N2_PROP after the entry (R156, R81). -/
def entryN2 (s : State) : Pwm × Bool :=
  match (patternOf s.cs.working s.cs.phase).n2Prop with
  | .off => (⟨none, entryStaged s, 0⟩, false)
  | .on => (⟨none, entryStaged s, 0⟩, true)
  | .pwm =>
    match s.tu.pwm.current with
    | some c => (⟨some c, entryStaged s, s.tu.pwm.applied⟩, s.cs.outputs.n2Prop)
    | none =>
      (⟨some ⟨s.clock, s.cs.working.pwmPeriod, entryStaged s * s.cs.working.pwmPeriod / 256⟩, entryStaged s, entryStaged s⟩,
        decide (0 < entryStaged s * s.cs.working.pwmPeriod / 256))

/-- The outputs driven to the pattern of a phase, N2_PROP apart (R156, R157). -/
def entryOutputs (s : State) (row : PatternRow) (n2 : Bool) : Outputs where
  n2Prop := n2
  n2Full := row.n2Full
  vent := row.vent
  circFan := row.circFan
  trapCool := row.trapCool
  shredDrive := row.shredDrive && shredInterlock s
  doorLock := row.doorLock
  discharge := row.discharge
  drain := row.drain
  beacon := row.beacon

theorem drivePattern_eq (s : State) : drivePattern s = { s with
    tu.pwm := (entryN2 s).1
    cs.outputs := entryOutputs s (patternOf s.cs.working s.cs.phase) (entryN2 s).2 } := by
  unfold drivePattern entryN2
  dsimp only
  rw [stageEntry_eq]
  unfold driveN2
  cases (patternOf s.cs.working s.cs.phase).n2Prop with
  | off => rfl
  | on => rfl
  | pwm =>
    dsimp only [drivePlain]
    cases s.tu.pwm.current <;> rfl

/-- The entry into a phase, as one change: the phase, its outputs, the generator and PHASE (R155, R156). -/
theorem enterPhase_eq (s : State) (p : Phase) (cause : PhaseCause) : enterPhase s p cause = { s with
    lp := noticed s.lp 14 (.phase s.cs.phase p cause (batchNumber s) s.cs.batchList.length)
    tu.pwm := (entryN2 { s with cs.phase := p }).1
    cs := { s.cs with
      phase := p
      outputs := entryOutputs { s with cs.phase := p } (patternOf s.cs.working p) (entryN2 { s with cs.phase := p }).2 } } := by
  unfold enterPhase
  dsimp only
  rw [drivePattern_eq]
  exact placeNotice_eq ..

/-- The duty that an entry stages, within its limits (R156). -/
theorem stagedAtEntry_eq {r : Recipe} (h : r.dutyMin ≤ 256) (p : Phase) :
    min (stagedAtEntry r p) 256 = if p = .paused then 256 else min (max r.dutyBase r.dutyMin) 256 := by
  unfold stagedAtEntry entryDuty limitDuty
  split
  · rfl
  · rw [clampNat_eq h]
    omega

theorem lelAtLeast_iff {m : Nat} : lelAtLeast s m = true ↔ gasFailed s = false ∧ ∃ v : Int, effectiveLel s = some v ∧ (m : Int) ≤ v := by
  unfold lelAtLeast
  rw [Bool.and_eq_true, Bool.not_eq_true', Option.any_eq_true]
  simp only [decide_eq_true_iff]

/-- The interlock of SHRED_DRIVE, condition by condition (R157). -/
theorem shredInterlock_iff : shredInterlock s = true ↔ s.cs.phase = .shredding ∧ s.tu.door.filtered = true ∧ gasFailed s = false
    ∧ (∃ v : Int, latestO2 s = some v ∧ v ≤ s.cs.working.o2ShredMax)
    ∧ ¬∃ v : Int, effectiveLel s = some v ∧ (s.cs.working.lelPause : Int) ≤ v := by
  have hlel : lelAtLeast s s.cs.working.lelPause = false ↔ ¬(gasFailed s = false ∧ ∃ v : Int, effectiveLel s = some v ∧ (s.cs.working.lelPause : Int) ≤ v) := by
    rw [← Bool.not_eq_true, lelAtLeast_iff]
  unfold shredInterlock doorClosed
  rw [Bool.and_eq_true, Bool.and_eq_true, Bool.and_eq_true, Bool.and_eq_true, beq_iff_eq, Bool.not_eq_true', Bool.not_eq_true', o2AtMost_iff, hlel]
  constructor
  · rintro ⟨⟨⟨⟨h1, h2⟩, h3, h4⟩, -⟩, h5⟩
    exact ⟨h1, h2, h3, h4, fun h => h5 ⟨h3, h⟩⟩
  · rintro ⟨h1, h2, h3, h4, h5⟩
    exact ⟨⟨⟨⟨h1, h2⟩, h3, h4⟩, h3⟩, fun h => h5 h.2⟩

/-- Settles O47: the outputs, the generator and PHASE of an entry. -/
theorem phaseEntryDrivesThePattern : Obligations.PhaseEntryDrivesThePattern := by
  intro s t p cause row duty ht hrow hduty hmin
  replace hrow : row = patternOf s.cs.working p := hrow.trans (by cases p <;> rfl)
  have hstaged : entryStaged { s with cs.phase := p } = if p = .shredding ∨ p = .paused ∨ row.n2Prop = .pwm then duty else s.tu.pwm.staged := by
    have hstages : entryStages p row.n2Prop = true ↔ p = .shredding ∨ p = .paused ∨ row.n2Prop = .pwm := by
      simp [entryStages, or_assoc]
    unfold entryStaged
    dsimp only
    rw [← hrow, stagedAtEntry_eq hmin, ← hduty]
    exact if_congr hstages rfl rfl
  rw [enterPhase_eq, ← hrow] at ht
  have hn2 : entryN2 { s with cs.phase := p } = match row.n2Prop with
      | .off => (⟨none, entryStaged { s with cs.phase := p }, 0⟩, false)
      | .on => (⟨none, entryStaged { s with cs.phase := p }, 0⟩, true)
      | .pwm =>
        match s.tu.pwm.current with
        | some c => (⟨some c, entryStaged { s with cs.phase := p }, s.tu.pwm.applied⟩, s.cs.outputs.n2Prop)
        | none =>
          (⟨some ⟨s.clock, s.cs.working.pwmPeriod, entryStaged { s with cs.phase := p } * s.cs.working.pwmPeriod / 256⟩,
            entryStaged { s with cs.phase := p }, entryStaged { s with cs.phase := p }⟩,
            decide (0 < entryStaged { s with cs.phase := p } * s.cs.working.pwmPeriod / 256)) := by
    rw [hrow]
    rfl
  rw [hstaged] at hn2
  generalize entryN2 { s with cs.phase := p } = n2 at ht hn2
  subst ht
  refine ⟨rfl, rfl, rfl, rfl, rfl, rfl, rfl, rfl, rfl, ?_, fun h => ?_, fun h => ?_, fun h => ?_, fun h => ?_, ?_⟩
  · show (row.shredDrive && shredInterlock { s with cs.phase := p }) = true ↔ _
    rw [Bool.and_eq_true, shredInterlock_iff]
    rfl
  · show n2.2 = false
    rw [hn2, h]
  · show n2.2 = true
    rw [hn2, h]
  · show n2.1 = _
    have hpair : (n2.1.current = none ∧ n2.1.applied = 0) ∧ n2.1.staged = if p = .shredding ∨ p = .paused then duty else s.tu.pwm.staged := by
      rw [hn2]
      cases hd : row.n2Prop with
      | pwm => exact absurd hd h
      | off => exact ⟨⟨rfl, rfl⟩, if_congr (by simp) rfl rfl⟩
      | on => exact ⟨⟨rfl, rfl⟩, if_congr (by simp) rfl rfl⟩
    rw [← hpair.2, ← hpair.1.1, ← hpair.1.2]
  · have hpos : (if p = .shredding ∨ p = .paused ∨ row.n2Prop = .pwm then duty else s.tu.pwm.staged) = duty := if_pos (.inr (.inr h))
    rw [hpos, h] at hn2
    show n2.1.staged = duty ∧ (s.tu.pwm.current = none → n2.1.applied = duty ∧ n2.2 = _ ∧ n2.1.current = _)
      ∧ (s.tu.pwm.current ≠ none → n2.1.current = s.tu.pwm.current ∧ n2.1.applied = s.tu.pwm.applied ∧ n2.2 = s.cs.outputs.n2Prop)
    cases hc : s.tu.pwm.current with
    | none =>
      rw [hc] at hn2
      rw [hn2]
      exact ⟨rfl, fun _ => ⟨rfl, rfl, rfl⟩, fun hne => absurd rfl hne⟩
    | some c =>
      rw [hc] at hn2
      rw [hn2]
      exact ⟨rfl, nofun, fun _ => ⟨rfl, rfl, rfl⟩⟩
  · rw [placeNotice_eq]
    show noticed s.lp 14 (.phase s.cs.phase p cause (batchNumber s) s.cs.batchList.length) = _
    unfold batchNumber
    simp only [List.isEmpty_iff]

end Sys2Proof.Machine
end

section
/-!
What CS makes of a sample and of the door, by its phase (9.2, 9.5, 9.6).
-/

namespace Sys2Proof.Machine

variable {s t : State}

/-! ### The effective LEL (R136) -/

/-- A value that the named entry i gives: of kind LEL, not in FAULT (R136). -/
theorem lelReading_iff {i : SensorIx} {v : Int} : lelReading s i = some v ↔
    s.sn.sensors[i].kind = .lel ∧ s.sn.sensors[i].state ≠ .fault ∧ s.sn.sensors[i].latest.map (·.1) = some v := by
  unfold lelReading
  dsimp only
  rw [Option.ite_none_right_eq_some, Bool.and_eq_true, beq_iff_eq, bne_iff_ne, and_assoc]

/-- The second named entry's value. -/
def secondReading (s : State) : Option Int := s.cs.working.lel2Sensor.bind (lelReading s)

theorem effectiveLel_some_iff {l : Int} : effectiveLel s = some l ↔
    (lelReading s s.cs.working.lel1Sensor = some l ∨ secondReading s = some l)
      ∧ (∀ v, lelReading s s.cs.working.lel1Sensor = some v → v ≤ l) ∧ ∀ v, secondReading s = some v → v ≤ l := by
  unfold effectiveLel
  show (match lelReading s s.cs.working.lel1Sensor, secondReading s with
    | some a, some b => some (max a b)
    | some a, none => some a
    | none, b => b) = some l ↔ _
  cases lelReading s s.cs.working.lel1Sensor <;> cases secondReading s <;> simp only [Option.some.injEq, reduceCtorEq, false_or, or_false, forall_eq'] 
  · simp
  · constructor
    · rintro rfl
      exact ⟨rfl, nofun, le_refl _⟩
    · exact fun h => h.1
  · constructor
    · rintro rfl
      exact ⟨rfl, le_refl _, nofun⟩
    · exact fun h => h.1
  · omega

theorem effectiveLel_none_iff : effectiveLel s = none ↔ lelReading s s.cs.working.lel1Sensor = none ∧ secondReading s = none := by
  unfold effectiveLel
  show (match lelReading s s.cs.working.lel1Sensor, secondReading s with
    | some a, some b => some (max a b)
    | some a, none => some a
    | none, b => b) = none ↔ _
  cases lelReading s s.cs.working.lel1Sensor <;> cases secondReading s <;> simp

/-- The readings of the named entries, entry by entry. -/
theorem reading_iff {i : SensorIx} {v : Int} :
    ((i = s.cs.working.lel1Sensor ∨ s.cs.working.lel2Sensor = some i) ∧ lelReading s i = some v) ↔
      (i = s.cs.working.lel1Sensor ∧ lelReading s s.cs.working.lel1Sensor = some v) ∨ (s.cs.working.lel2Sensor = some i ∧ lelReading s i = some v) := by
  rw [or_and_right]
  exact or_congr ⟨fun h => ⟨h.1, h.1 ▸ h.2⟩, fun h => ⟨h.1, h.1 ▸ h.2⟩⟩ Iff.rfl

theorem secondReading_iff {v : Int} : secondReading s = some v ↔ ∃ i, s.cs.working.lel2Sensor = some i ∧ lelReading s i = some v :=
  Option.bind_eq_some_iff

section
variable {reads : SensorIx → Int → Prop} (hreads : ∀ i v, reads i v ↔
  (i = s.cs.working.lel1Sensor ∨ s.cs.working.lel2Sensor = some i) ∧ lelReading s i = some v)
include hreads

theorem exists_reads_iff {v : Int} : (∃ i, reads i v) ↔ lelReading s s.cs.working.lel1Sensor = some v ∨ secondReading s = some v := by
  rw [secondReading_iff]
  constructor
  · rintro ⟨i, hi⟩
    rcases reading_iff.mp ((hreads i v).mp hi) with h | h
    · exact .inl h.2
    · exact .inr ⟨i, h⟩
  · rintro (h | ⟨i, h⟩)
    · exact ⟨_, (hreads _ _).mpr (reading_iff.mpr (.inl ⟨rfl, h⟩))⟩
    · exact ⟨i, (hreads _ _).mpr (reading_iff.mpr (.inr h))⟩

/-- The effective LEL is the largest of the readings that count (R136). -/
theorem effectiveLel_iff (l : Int) : effectiveLel s = some l ↔ (∃ i, reads i l) ∧ ∀ i v, reads i v → v ≤ l := by
  have hall : (∀ i v, reads i v → v ≤ l) ↔
      (∀ v, lelReading s s.cs.working.lel1Sensor = some v → v ≤ l) ∧ ∀ v, secondReading s = some v → v ≤ l := by
    constructor
    · intro h
      refine ⟨fun v hv => ?_, fun v hv => ?_⟩
      · obtain ⟨i, hi⟩ := (exists_reads_iff hreads).mpr (.inl hv)
        exact h i v hi
      · obtain ⟨i, hi⟩ := (exists_reads_iff hreads).mpr (.inr hv)
        exact h i v hi
    · rintro ⟨h1, h2⟩ i v hi
      rcases (exists_reads_iff hreads).mp ⟨i, hi⟩ with h | h
      · exact h1 v h
      · exact h2 v h
  rw [effectiveLel_some_iff, exists_reads_iff hreads, hall]

theorem gasFailed_iff : gasFailed s = true ↔ s.sn.sensors[s.cs.working.o2Sensor].state = .fault ∨ s.sn.sensors[s.cs.working.o2Sensor].state = .init
    ∨ s.sn.sensors[s.cs.working.o2Sensor].enabled = false ∨ s.sn.sensors[s.cs.working.o2Sensor].kind ≠ .o2 ∨ ∀ i v, ¬reads i v := by
  have hnone : effectiveLel s = none ↔ ∀ i v, ¬reads i v := by
    rw [effectiveLel_none_iff, Option.eq_none_iff_forall_ne_some, Option.eq_none_iff_forall_ne_some]
    constructor
    · rintro ⟨h1, h2⟩ i v hi
      rcases (exists_reads_iff hreads).mp ⟨i, hi⟩ with h | h
      · exact h1 v h
      · exact h2 v h
    · refine fun h => ⟨fun v hv => ?_, fun v hv => ?_⟩
      · obtain ⟨i, hi⟩ := (exists_reads_iff hreads).mpr (.inl hv)
        exact h i v hi
      · obtain ⟨i, hi⟩ := (exists_reads_iff hreads).mpr (.inr hv)
        exact h i v hi
  unfold gasFailed o2Unusable
  dsimp only
  rw [Bool.or_eq_true, Bool.or_eq_true, Bool.or_eq_true, Bool.or_eq_true, beq_iff_eq, beq_iff_eq, Bool.not_eq_true', bne_iff_ne,
    Option.isNone_iff_eq_none, hnone, or_assoc, or_assoc, or_assoc]

end

/-! ### The conditions on l and o, the values read while the gas sensors are not failed -/

/-- A condition judged only while the gas sensors are not failed (R157, assumption 17). -/
theorem judged_iff {a : Option Int} {v : Int} {p : Int → Prop} [DecidablePred p] (h : gasFailed s = false → a = some v) :
    (!gasFailed s && a.any fun x => decide (p x)) = true ↔ gasFailed s = false ∧ p v := by
  rw [Bool.and_eq_true, Bool.not_eq_true']
  refine and_congr_right fun hg => ?_
  rw [h hg, Option.any_some, decide_eq_true_iff]

section
variable {l o : Int} (hgas : gasFailed s = false → effectiveLel s = some l ∧ latestO2 s = some o)
include hgas

theorem lelAtLeast_at {m : Nat} : lelAtLeast s m = true ↔ gasFailed s = false ∧ (m : Int) ≤ l := judged_iff fun h => (hgas h).1

theorem lelAtMost_at {m : Nat} : lelAtMost s m = true ↔ gasFailed s = false ∧ l ≤ m := judged_iff fun h => (hgas h).1

theorem o2AtLeast_at {m : Nat} : o2AtLeast s m = true ↔ gasFailed s = false ∧ (m : Int) ≤ o := judged_iff fun h => (hgas h).2

theorem o2Above_at {m : Nat} : o2Above s m = true ↔ gasFailed s = false ∧ (m : Int) < o := judged_iff fun h => (hgas h).2

theorem o2AtMost_at {m : Nat} : o2AtMost s m = true ↔ gasFailed s = false ∧ o ≤ m := judged_iff fun h => (hgas h).2

theorem shredInterlock_at : shredInterlock s = true ↔ s.cs.phase = .shredding ∧ s.tu.door.filtered = true ∧ gasFailed s = false
    ∧ o ≤ s.cs.working.o2ShredMax ∧ l < s.cs.working.lelPause := by
  rw [shredInterlock_iff]
  refine and_congr_right fun _ => and_congr_right fun _ => and_congr_right fun hg => ?_
  rw [(hgas hg).1, (hgas hg).2]
  simp

/-- The nitrogen duty of l (R137). -/
theorem stageNitrogen_at (hg : gasFailed s = false) : stageNitrogen s = { s with
    tu.pwm.staged := min (max (s.cs.working.dutyMin : Int)
      (min (s.cs.working.dutyBase + Int.tdiv ((l - s.cs.working.lelTarget) * s.cs.working.kp) 16) 256)).toNat 256 } := by
  have hduty : min (nitrogenDuty s.cs.working l) 256 = min (max (s.cs.working.dutyMin : Int)
      (min (s.cs.working.dutyBase + Int.tdiv ((l - s.cs.working.lelTarget) * s.cs.working.kp) 16) 256)).toNat 256 := by
    unfold nitrogenDuty limitDuty clampNat clampInt
    generalize (s.cs.working.dutyBase + Int.tdiv ((l - s.cs.working.lelTarget) * s.cs.working.kp) 16 : Int) = d
    split_ifs <;> omega
  have hstage : stageNitrogen s = stageDuty s (nitrogenDuty s.cs.working l) := by
    unfold stageNitrogen
    rw [(hgas hg).1]
  rw [hstage, ← hduty]
  rfl

theorem abortCause_at : abortCause s =
    if gasFailed s = false ∧ (s.cs.working.lelAbort : Int) ≤ l then some .lelAbort
    else if gasFailed s = false ∧ (s.cs.working.o2Abort : Int) ≤ o then some .o2Abort
    else none :=
  if_congr (lelAtLeast_at hgas) rfl (if_congr (o2AtLeast_at hgas) rfl rfl)

theorem pauseCause_at : pauseCause s =
    if gasFailed s = false ∧ (s.cs.working.lelPause : Int) ≤ l then some .lelPause
    else if gasFailed s = false ∧ (s.cs.working.o2ShredMax : Int) < o then some .o2High
    else if gasFailed s = true then some .gasFault
    else if s.tu.door.filtered = false then some .doorOpened
    else none :=
  if_congr (lelAtLeast_at hgas) rfl (if_congr (o2Above_at hgas) rfl (if_congr Iff.rfl rfl (if_congr (Bool.not_eq_true' _).to_iff rfl rfl)))

/-- SHREDDING judged on l and o (R166). -/
theorem judgeShredding_at (sample : Bool) : judgeShredding s sample =
    if gasFailed s = false ∧ (s.cs.working.lelAbort : Int) ≤ l then enterAborted s .lelAbort
    else if gasFailed s = false ∧ (s.cs.working.o2Abort : Int) ≤ o then enterAborted s .o2Abort
    else if gasFailed s = false ∧ (s.cs.working.lelPause : Int) ≤ l then enterPaused s .lelPause
    else if gasFailed s = false ∧ (s.cs.working.o2ShredMax : Int) < o then enterPaused s .o2High
    else if gasFailed s = true then enterPaused s .gasFault
    else if s.tu.door.filtered = false then enterPaused s .doorOpened
    else if sample = true then
      { s with
        tu.pwm.staged := min (max (s.cs.working.dutyMin : Int)
          (min (s.cs.working.dutyBase + Int.tdiv ((l - s.cs.working.lelTarget) * s.cs.working.kp) 16) 256)).toNat 256 }
    else s := by
  unfold judgeShredding
  rw [abortCause_at hgas]
  by_cases hlel : gasFailed s = false ∧ (s.cs.working.lelAbort : Int) ≤ l
  · rw [if_pos hlel, if_pos hlel]
  rw [if_neg hlel, if_neg hlel]
  by_cases ho2 : gasFailed s = false ∧ (s.cs.working.o2Abort : Int) ≤ o
  · rw [if_pos ho2, if_pos ho2]
  rw [if_neg ho2, if_neg ho2, pauseCause_at hgas]
  by_cases hgood : gasFailed s = true
  · rw [if_pos hgood, if_pos hgood]
    split_ifs <;> rfl
  rw [if_neg hgood, if_neg hgood, stageNitrogen_at hgas (Bool.not_eq_true _ ▸ hgood)]
  split_ifs <;> rfl

/-- PAUSED judged on l and o: abort first, then the resumption (R167). -/
theorem judgePaused_at (sample : Bool) : judgePaused s sample =
    if gasFailed s = false ∧ (s.cs.working.lelAbort : Int) ≤ l then enterAborted s .lelAbort
    else if gasFailed s = false ∧ (s.cs.working.o2Abort : Int) ≤ o then enterAborted s .o2Abort
    else if gasFailed s = false ∧ l ≤ s.cs.working.lelResume ∧ o ≤ s.cs.working.o2ShredMax ∧ s.tu.door.filtered = true then
      (if s.cs.shredDone = true then enterCondensing { s with tu.pause := ⟨.idle, none⟩ } .resume
       else judgeShredding (enterPhase { s with
         tu.pause := ⟨.idle, none⟩
         tu.phase := chResume s.clock s.tu.phase } .shredding .resume) sample)
    else s := by
  have hresume : (lelAtMost s s.cs.working.lelResume && o2AtMost s s.cs.working.o2ShredMax && !gasFailed s && doorClosed s) = true ↔
      gasFailed s = false ∧ l ≤ s.cs.working.lelResume ∧ o ≤ s.cs.working.o2ShredMax ∧ s.tu.door.filtered = true := by
    rw [Bool.and_eq_true, Bool.and_eq_true, Bool.and_eq_true, Bool.not_eq_true', lelAtMost_at hgas, o2AtMost_at hgas]
    unfold doorClosed
    tauto
  unfold judgePaused
  rw [abortCause_at hgas]
  by_cases hlel : gasFailed s = false ∧ (s.cs.working.lelAbort : Int) ≤ l
  · rw [if_pos hlel, if_pos hlel]
  rw [if_neg hlel, if_neg hlel]
  by_cases ho2 : gasFailed s = false ∧ (s.cs.working.o2Abort : Int) ≤ o
  · rw [if_pos ho2, if_pos ho2]
  rw [if_neg ho2, if_neg ho2]
  exact if_congr hresume rfl rfl

/-- SHRED_DRIVE judged on l and o (R157). -/
theorem judgeDrive_at : ∃ drive : Bool, judgeDrive s = { s with cs.outputs.shredDrive := drive }
    ∧ (drive = true ↔ (patternOf s.cs.working s.cs.phase).shredDrive = true ∧ s.cs.phase = .shredding ∧ s.tu.door.filtered = true
      ∧ gasFailed s = false ∧ o ≤ s.cs.working.o2ShredMax ∧ l < s.cs.working.lelPause) :=
  ⟨_, rfl, by rw [Bool.and_eq_true, shredInterlock_at hgas]⟩

end

/-- The trap is cold (R168). -/
theorem trapCold_iff : trapCold s = true ↔ s.sn.sensors[s.cs.working.trapSensor].kind = .temp
    ∧ s.sn.sensors[s.cs.working.trapSensor].state ≠ .fault
    ∧ ∃ v : Int, s.sn.sensors[s.cs.working.trapSensor].latest.map (·.1) = some v ∧ v ≤ s.cs.working.trapMax := by
  unfold trapCold trapUsable latestTrap
  dsimp only
  rw [Bool.and_eq_true, Bool.and_eq_true, Bool.and_eq_true, beq_iff_eq, bne_iff_ne, Option.any_eq_true]
  simp only [decide_eq_true_iff, and_assoc]
  refine and_congr_right fun _ => and_congr_right fun _ => and_iff_right_of_imp ?_
  rintro ⟨v, hv, -⟩
  rw [Option.map_eq_some_iff] at hv
  obtain ⟨p, hp, -⟩ := hv
  exact Option.isSome_iff_exists.mpr ⟨p, hp⟩

/-- Settles O46: the judging of gas, trap and door by the phase, on the values that count. -/
theorem chamberJudgesGasTrapAndDoor : Obligations.ChamberJudgesGasTrapAndDoor := by
  constructor
  · rintro s W l o bad shut paused rfl rfl rfl hgas rfl
    refine ⟨fun sample => ⟨judgeShredding_at hgas sample, ?_⟩, ?_, trapCold_iff, ?_, judgeDrive_at hgas⟩
    · rintro u rfl
      exact judgePaused_at hgas sample
    · intro i good lel o2 sample hlel ho2 hsample
      have hl : isLelSensor s i = lel := by
        rw [Bool.eq_iff_iff, hlel]
        unfold isLelSensor
        rw [Bool.or_eq_true, beq_iff_eq, beq_iff_eq]
      have ho : (s.cs.working.o2Sensor == i) = o2 := by
        rw [Bool.eq_iff_iff, ho2, beq_iff_eq]
      have hs : (good && lel && s.sn.sensors[i].kind == .lel && s.sn.sensors[i].state != .fault) = sample := by
        rw [Bool.eq_iff_iff, hsample, Bool.and_eq_true, Bool.and_eq_true, Bool.and_eq_true, beq_iff_eq, bne_iff_ne, and_assoc, and_assoc]
      have hpurge : (o2 && good && purgeDone s) = true ↔ o2 = true ∧ good = true ∧ s.cs.purgeMinDone = true ∧ gasFailed s = false ∧ o ≤ s.cs.working.purgeTarget := by
        unfold purgeDone
        rw [Bool.and_eq_true, Bool.and_eq_true, Bool.and_eq_true, o2AtMost_at hgas, and_assoc]
      have htrap : (s.cs.working.trapSensor == i && s.cs.step == .cooling) = true ↔ s.cs.working.trapSensor = i ∧ s.cs.step = .cooling := by
        rw [Bool.and_eq_true, beq_iff_eq, beq_iff_eq]
      unfold chamberSensor
      dsimp only
      rw [hl, ho, hs]
      refine congrArg judgeDrive ?_
      cases s.cs.phase with
      | purging =>
        exact if_congr ((Bool.and_eq_true _ _).to_iff.trans (and_congr_right fun _ => lelAtLeast_at hgas)) rfl (if_congr hpurge rfl rfl)
      | shredding => exact if_congr (Bool.or_eq_true _ _).to_iff rfl rfl
      | paused => exact if_congr (Bool.or_eq_true _ _).to_iff rfl rfl
      | condensing =>
        exact if_congr ((Bool.and_eq_true _ _).to_iff.trans (and_congr (Bool.or_eq_true _ _).to_iff (lelAtLeast_at hgas))) rfl
          (if_congr htrap rfl rfl)
      | _ => rfl
    · unfold chamberDoor
      refine congrArg judgeDrive ?_
      cases s.cs.phase <;> rfl
  · rintro s x reads rfl hreads
    have hread : ∀ i v, reads i v ↔ (i = s.cs.working.lel1Sensor ∨ s.cs.working.lel2Sensor = some i) ∧ lelReading s i = some v :=
      fun i v => (hreads i v).trans (and_congr_right fun _ => lelReading_iff.symm)
    exact ⟨effectiveLel_iff hread, rfl, gasFailed_iff hread⟩

end Sys2Proof.Machine
end

section
/-!
The beginnings of the chamber phases, the abort and the end of a batch (9.4 to 9.7, 1.5).
-/

namespace Sys2Proof.Machine

variable {s t : State}

/-! ### A record found after holds are raised -/

/-- The tag finds a record with a property. -/
def Finds (s : State) (tag : Tag) (Q : Record → Prop) : Prop := ∃ x, lookup s tag = some x ∧ Q x

theorem finds_congr {tag : Tag} {Q : Record → Prop} (h : t.records = s.records) (hs : Finds s tag Q) : Finds t tag Q := by
  unfold Finds lookup at hs ⊢
  rw [h]
  exact hs

theorem finds_updRecord {tag : Tag} {Q : Record → Prop} (x : Tag) {g : Record → Record} (htag : ∀ r, (g r).tag = r.tag)
    (hg : ∀ r, Q r → Q (g r)) (hs : Finds s tag Q) : Finds (updRecord s x g) tag Q := by
  obtain ⟨r, hr, hq⟩ := hs
  by_cases hx : tag = x
  · subst hx
    exact ⟨g r, lookup_updRecord_some hr htag, hg r hq⟩
  · exact ⟨r, (lookup_updRecord_other s htag hx).trans hr, hq⟩

section
variable {tag : Tag} {Q : Record → Prop} (hstage : ∀ r st, Q r → Q { r with stage := st })
  (hhold : ∀ r e, Q r → Q { r with holds := r.holds ++ [e] })
include hstage

theorem finds_withdrawInlet (x : Tag) (hs : Finds s tag Q) : Finds (withdrawInlet s x) tag Q := by
  rcases withdrawInlet_records s x with h | h
  · exact finds_congr h hs
  · exact finds_congr h (finds_updRecord x (g := fun r => { r with stage := .claimed }) (fun _ => rfl) (fun r => hstage r _) hs)

include hhold

/-- A property that a stage and a further hold leave is kept by every hold raised. -/
theorem finds_raiseHold (x : Tag) (h : HoldReason) (k : Nat) (hs : Finds s tag Q) : Finds (raiseHold s x h k) tag Q := by
  unfold raiseHold
  split
  · have hw := finds_withdrawInlet hstage x hs
    unfold addHold
    split
    · obtain ⟨p, hp, -⟩ := sendHoldRaised_frame (putHold (withdrawInlet s x) x h k) x h k none
      rw [hp]
      exact finds_updRecord x (g := fun r => { r with holds := r.holds ++ [⟨h, k, (withdrawInlet s x).clock⟩] }) (fun _ => rfl)
        (fun r => hhold r _) hw
    · exact hw
  · exact hs

end

theorem carries_append {r : Record} {h : HoldReason} (e : HoldEntry) (hc : carries r h = true) :
    carries { r with holds := r.holds ++ [e] } h = true := by
  unfold carries at hc ⊢
  rw [List.any_append, hc, Bool.true_or]

/-- A hold raised is carried. -/
theorem raiseHold_carries {tag : Tag} {r : Record} (hr : lookup s tag = some r) (h : HoldReason) (k : Nat) :
    Finds (raiseHold s tag h k) tag (carries · h = true) := by
  cases hc : carries r h with
  | true =>
    rw [raiseHold_held hr hc]
    exact ⟨r, hr, hc⟩
  | false =>
    obtain ⟨r', hr', -⟩ := lookup_withdrawInlet hr
    rw [raiseHold_eq hr hc]
    cases hc' : carries r' h with
    | true =>
      rw [addHold_held fun x hx => by rw [← Option.some.inj (hr'.symm.trans hx), hc']]
      exact ⟨r', hr', hc'⟩
    | false =>
      rw [addHold_new hr' hc', placeNotice_eq]
      refine ⟨_, lookup_updRecord_some (g := fun r => { r with holds := r.holds ++ [⟨h, k, (withdrawInlet s tag).clock⟩] }) hr' fun _ => rfl, ?_⟩
      unfold carries
      simp

/-- Every record of a list on which a hold is raised carries it in the end. -/
theorem foldl_raiseHold_carries (h : HoldReason) (k : Nat) {tag : Tag} (l : List Tag) (s : State)
    (hs : Finds s tag (carries · h = true) ∨ tag ∈ l ∧ Finds s tag fun _ => True) :
    Finds (l.foldl (fun u t => raiseHold u t h k) s) tag (carries · h = true) := by
  induction l generalizing s with
  | nil => exact hs.resolve_right fun hm => List.not_mem_nil hm.1
  | cons x l ih =>
    refine ih _ ?_
    rcases hs with hs | ⟨hm, hs⟩
    · exact .inl (finds_raiseHold (fun _ _ hc => hc) (fun _ e hc => carries_append e hc) x h k hs)
    · by_cases hx : tag = x
      · obtain ⟨r, hr, -⟩ := hs
        subst hx
        exact .inl (raiseHold_carries hr h k)
      · exact .inr ⟨(List.mem_cons.mp hm).resolve_left hx, finds_raiseHold (fun _ _ _ => trivial) (fun _ _ _ => trivial) x h k hs⟩

/-! ### Retirement -/

theorem lookup_none_of_sublist {tag : Tag} (h : t.records.Sublist s.records) (hs : lookup s tag = none) : lookup t tag = none := by
  unfold lookup at hs ⊢
  split at hs
  · next hres => rw [if_pos hres]
  · next hres =>
    rw [if_neg hres, List.find?_eq_none]
    exact fun r hr => List.find?_eq_none.mp hs r (h.subset hr)

theorem lookup_retireRecord (s : State) (route : Route) (tag : Tag) : lookup (retireRecord s route tag) tag = none := by
  cases hr : lookup s tag with
  | none => rw [retireRecord_none route hr, hr]
  | some r =>
    rw [retireRecord_some route hr]
    unfold lookup
    split
    · rfl
    · rw [List.find?_eq_none]
      intro x hx
      have := (List.mem_filter.mp hx).2
      simpa using this

/-- The records retired one after another are found no more. -/
theorem lookup_foldl_retire {route : Route} {tag : Tag} (l : List Tag) (s : State) (hs : tag ∈ l ∨ lookup s tag = none) :
    lookup (l.foldl (fun u t => retireRecord u route t) s) tag = none := by
  induction l generalizing s with
  | nil => exact hs.resolve_left List.not_mem_nil
  | cons x l ih =>
    refine ih _ ?_
    by_cases hx : tag = x
    · subst hx
      exact .inr (lookup_retireRecord s route tag)
    · refine hs.imp (fun hm => (List.mem_cons.mp hm).resolve_left hx) fun hn => ?_
      obtain ⟨lp, rs, z, hf, -, -, -, -, -, -, hsub⟩ := retireRecord_frame s route x
      show lookup (retireRecord s route x) tag = none
      rw [hf]
      exact lookup_none_of_sublist (s := s) hsub hn

theorem foldl_retire_line (route : Route) (l : List Tag) (s : State) : (l.foldl (fun u t => retireRecord u route t) s).line = s.line := by
  induction l generalizing s with
  | nil => rfl
  | cons x l ih =>
    obtain ⟨lp, rs, z, hf, -⟩ := retireRecord_frame s route x
    refine (ih _).trans ?_
    show (retireRecord s route x).line = s.line
    rw [hf]

theorem enterLoading_records (s : State) : (enterLoading s).records = s.records := by
  unfold enterLoading
  split
  · dsimp only
    obtain ⟨lp, tu, cs, g, h⟩ := selectionAttempt_frame (enterPhase { (if s.cs.commitMark = true then { s with cs.working := s.cs.staged, cs.commitMark := false } else s) with
      cs.loadExpired := false, cs.ffCount := 0 } .loading .lineRun)
    rw [h, enterPhase_eq]
    show (if s.cs.commitMark = true then { s with cs.working := s.cs.staged, cs.commitMark := false } else s).records = s.records
    split <;> rfl
  · rfl

theorem idleGoesOn_records (s : State) : (idleGoesOn s).records = s.records := by
  unfold idleGoesOn
  split
  · exact enterLoading_records s
  · rfl

/-! ### The trap at the entry into CONDENSING -/

theorem trapCold_congr (hsensors : t.sn.sensors = s.sn.sensors) (hworking : t.cs.working = s.cs.working) : trapCold t = trapCold s := by
  unfold trapCold trapUsable latestTrap
  simp only [hsensors, hworking]

theorem requestBaseline_eq (s : State) : requestBaseline s = { s with
    cs.baseline := if s.cs.baseline = .none then .pending else s.cs.baseline
    sn := if s.cs.baseline ≠ .none then s.sn
      else if s.sn.sensors[s.cs.working.condensateSensor].enabled = false
        ∨ s.sn.sensors[s.cs.working.condensateSensor].state = .fault then
        { s.sn with immediate := s.sn.immediate ++ [.condensate] }
      else { s.sn with requests := s.sn.requests ++ [⟨.condensate, s.cs.working.condensateSensor⟩] } } := by
  unfold requestBaseline
  by_cases hb : s.cs.baseline = .none
  · rw [if_pos hb, if_pos hb, if_neg (not_not.mpr hb)]
    exact requestSample_eq { s with cs.baseline := .pending } .condensate s.cs.working.condensateSensor
  · rw [if_neg hb, if_neg hb, if_pos hb]

theorem requestBaseline_sensors (s : State) : (requestBaseline s).sn.sensors = s.sn.sensors := by
  rw [requestBaseline_eq]
  dsimp only
  split
  · rfl
  · split <;> rfl

/-- The entry into CONDENSING: the baseline is asked for where there is none, the condensing time held or let run (R168). -/
theorem enterCondensing_eq (s : State) (cause : PhaseCause) {u : State}
    (hu : u = enterPhase { s with cs.step := .cooling, tu.phase := ⟨.frozen (s.cs.working.condenseTime * 1000), none⟩ } .condensing cause) :
    enterCondensing s cause = { u with
      tu.phase := if trapCold s = true then ⟨.running (s.clock + msec (s.cs.working.condenseTime * 1000)), none⟩
        else ⟨.frozen (s.cs.working.condenseTime * 1000), none⟩
      cs.baseline := if s.cs.baseline = .none then .pending else s.cs.baseline
      sn := if s.cs.baseline ≠ .none then s.sn
        else if s.sn.sensors[s.cs.working.condensateSensor].enabled = false
          ∨ s.sn.sensors[s.cs.working.condensateSensor].state = .fault then
          { s.sn with immediate := s.sn.immediate ++ [.condensate] }
        else { s.sn with requests := s.sn.requests ++ [⟨.condensate, s.cs.working.condensateSensor⟩] } } := by
  have henter : enterCondensing s cause = judgeTrap (requestBaseline u) := by
    rw [hu]
    rfl
  have htrap : trapCold (requestBaseline u) = trapCold s := by
    refine trapCold_congr ((requestBaseline_sensors u).trans ?_) ?_
    · rw [hu, enterPhase_eq]
    · rw [requestBaseline_eq, hu, enterPhase_eq]
  rw [henter]
  unfold judgeTrap
  rw [htrap, requestBaseline_eq, hu, enterPhase_eq]
  rfl

/-- Settles O48: the entries into the phases, the abort and the end of a batch. -/
theorem chamberPhasesBeginAndEnd : Obligations.ChamberPhasesBeginAndEnd := by
  intro s
  refine ⟨fun cause => ⟨rfl, ⟨_, rfl, ?_⟩, rfl, ⟨_, rfl, enterCondensing_eq s cause rfl⟩, ?_, fun tag htag r hr => ?_⟩, rfl,
    ⟨_, _, rfl, rfl, ?_⟩, fun tag r hr => ?_, fun tag htag => ?_⟩
  · unfold enterSealing startPhase
    refine if_congr ?_ rfl rfl
    rw [enterPhase_eq]
    rfl
  · have hbatch : ∀ u : State, (enterPhase u .aborted cause).cs.batchList = u.cs.batchList := fun u => by rw [enterPhase_eq]
    unfold enterAborted
    exact congrArg (fun l => List.foldl _ _ l) (hbatch _)
  · refine foldl_raiseHold_carries .chamberAbort 0 _ _ (.inr ⟨?_, ?_⟩)
    · rw [enterPhase_eq]
      exact htag
    · rw [enterPhase_eq]
      exact ⟨r, hr, trivial⟩
  · unfold endUnloading idleGoesOn
    refine if_congr ?_ rfl rfl
    rw [enterPhase_eq]
    exact (congrArg (·.state = .run) (foldl_retire_line .chamber s.cs.batchList s)).to_iff
  · rw [retireRecord_some .chamber hr]
    show { takeOut (placeNotice s 14 (dischargeReport s .chamber r)) .chamber tag with records := s.records.filter (·.tag != tag) } = _
    rw [placeNotice_eq, placeNotice_eq]
    rfl
  · have hnone := lookup_foldl_retire (route := .chamber) (tag := tag) s.cs.batchList s (.inl htag)
    refine lookup_none_of_sublist (s := s.cs.batchList.foldl (fun u t => retireRecord u .chamber t) s) ?_ hnone
    unfold endUnloading
    rw [idleGoesOn_records, enterPhase_eq]

end Sys2Proof.Machine
end
